-- ==== Sys2Proof/Word.lean ====
section
/-! DEFINITION. Sys2Proof/Word.lean: the words of the block (bytes, the 16-bit CRC register) and the plain
enumerations and records that the spec names: states, failure reasons, control classes, stimuli, event records,
the answers of the environment, and the form in which one row of the opcode table is presented to the decoder.
Only types stand here; the codes and functions over them are in Sys2Proof/Machine/Codes.lean and after. -/

namespace Sys2Proof

/-- A byte, the only unit of addressing and transfer (R9, R61). -/
abbrev Byte := BitVec 8

/-- The 16-bit working register of the CRC Engine (R24). -/
abbrev Word16 := BitVec 16

/-- The eight states of the Sender State Machine (R22, R180); the argument of FAILED is the register `reason`. -/
inductive Fsm where
  | awaitStart
  | sendBlock
  | awaitAck
  | retry
  | sendEot
  | awaitEotAck
  | done
  | failed
deriving DecidableEq, Repr, Inhabited

/-- The six failure reasons (R32, R261). The register `reason` holds `none` or one of them. -/
inductive FailReason where
  | noStartSignal
  | maxRetriesExceeded
  | peerCancelled
  | eotNotAcked
  | ioError
  | cancelledLocally
deriving DecidableEq, Repr, Inhabited

/-- The control class of a received byte (R108). -/
inductive ControlClass where
  | ack
  | nak
  | can
  | start
  | other
deriving DecidableEq, Repr, Inhabited

/-- The stimulus of a step (R112). Code 7 is never produced and has no constructor. -/
inductive Stimulus where
  | none
  | ack
  | can
  | start
  | nak
  | timeout
  | other
deriving DecidableEq, Repr, Inhabited

/-- The three kinds of event record (R245). -/
inductive EventKind where
  | tx
  | rx
  | trans
deriving DecidableEq, Repr, Inhabited

/-- The `outcome` field of an event record (R245, R248). -/
inductive EventOutcome where
  | none
  | ok
  | done
  | reason (r : FailReason)
  | cls (c : ControlClass)
deriving DecidableEq, Repr, Inhabited

/-- One event record of the observability stream, field by field as R248 lays it out. -/
structure Event where
  kind      : EventKind
  seq       : Byte
  byteCount : Byte
  outcome   : EventOutcome
  fromState : Fsm
  toState   : Fsm
  value     : Byte
deriving DecidableEq, Repr, Inhabited

/-- The three answers of `ChRead` (R66). -/
inductive ReadAnswer where
  | byte (b : Byte)
  | timeout
  | ioError
deriving DecidableEq, Repr, Inhabited

/-- What the channel does with one write (R67): the whole sequence, a count below its length, or an error. -/
inductive WriteAnswer where
  | full
  | short
  | error
deriving DecidableEq, Repr, Inhabited

/-- The two answers of `ChWrite` (R67). -/
inductive WriteResult where
  | ok
  | ioError
deriving DecidableEq, Repr, Inhabited

/-- Whether one source read succeeds (R64). -/
inductive SourceAnswer where
  | ok
  | ioError
deriving DecidableEq, Repr, Inhabited

/-- The result of `MemRead(SRC, a, n)` (R64). -/
inductive SourceResult where
  | chunk (c : List Byte)
  | ioError
deriving DecidableEq, Repr, Inhabited

/-- What the last directly invoked operation answered: "one call, one answer" (R240). -/
inductive CallAnswer where
  | none
  | ok
  | timeout
  | ioError
  | byte (b : Byte)
  | bytes (bs : List Byte)
  | cls (c : ControlClass)
deriving DecidableEq, Repr, Inhabited

/-- The error kinds of R269 and R270. The last two are absorbed by the retry loop and never escape. -/
inductive ErrorKind where
  | ioError
  | peerCancelled
  | retriesExhausted
  | localCancellation
  | protocolTimeout
  | protocolNak
deriving DecidableEq, Repr, Inhabited

/-- The three outcome classes of a session (R269). -/
inductive OutcomeClass where
  | success
  | aborted
  | timedOut
deriving DecidableEq, Repr, Inhabited

/-- What the driver reports of a finished session (R243). -/
inductive SessionResult where
  | success (byteCount : Nat)
  | failure (kind : ErrorKind) (lastSeq : Byte)
deriving DecidableEq, Repr, Inhabited

/-- The operands of a directly invoked operation. The spec gives them no bits ("Encoding: none"); each operation
reads the fields its rule names and no other. -/
structure CallArgs where
  byte    : Byte
  bytes   : List Byte
  pos     : Nat
  count   : Nat
  timeout : Nat
  event   : Event
deriving DecidableEq, Repr, Inhabited

/-- One word presented to the decoder, in one of the five formats of the opcode table (R100, R113, R114). -/
inductive Call where
  | rxByte (b : Byte)
  | txByte (b : Byte)
  | txFrame (bs : List Byte)
  | op (sel : BitVec 4) (args : CallArgs)
  | fsmKey (k : BitVec 10)
deriving DecidableEq, Repr

/-- Why the decoder rejects a word. -/
inductive DecodeError where
  | notEot         -- format tx_byte, and the byte is not 0x04 (R102)
  | badFrame       -- format tx_frame, and the bytes are not 133 beginning with SOH (R101, R110)
  | unusedSelector -- format op, selector 12 to 15 (R114)
  | noTransition   -- format fsm_key, and no row of the table matches the key (R113)
deriving DecidableEq, Repr

end Sys2Proof
end

