-- ==== Sys2Proof/Syntax.lean ====
section
/-! DEFINITION. Sys2Proof/Syntax.lean: the instructions, one constructor per row of spec/opcode_table.json (52 rows:
five received-byte classes, two transmitted formats, twelve operations, thirty-three transition rows; R114). -/

namespace Sys2Proof

/-- The rows of the opcode table. A constructor carries the operands its rule names. -/
inductive Instr where
  -- control bytes received (R108)
  | rxAck
  | rxNak
  | rxCan
  | rxStart
  | rxOther (b : Byte)
  -- wire formats transmitted (R101, R102)
  | txFrame (seq cmpl : Byte) (payload : List Byte) (crcHi crcLo : Byte)
  | txEot
  -- CRC Engine (R141 to R144)
  | crcInit
  | crcRound
  | crcByte (b : Byte)
  | crcBlock (payload : List Byte)
  -- Block Framer (R161 to R163)
  | frPad (chunk : List Byte)
  | frCmpl (seq : Byte)
  | frFrame (seq : Byte) (chunk : List Byte)
  -- interface primitives (R64, R66, R67, R241, R246)
  | srcRead (pos count : Nat)
  | chRead (timeout : Nat)
  | chWrite (bytes : List Byte)
  | reset
  | evtEmit (e : Event)
  -- cancellation and terminal states (R215, R216)
  | cancel
  | cancelHi
  | haltDone
  | haltFailed
  -- AWAIT_START (R182 to R186)
  | startGo
  | startCan
  | startIoerr
  | startPoll
  | startPollAck
  | startExhaust
  | startExhaustAck
  -- SEND_BLOCK (R190 to R193)
  | blockSend
  | blockSendEmpty
  | blockEof
  | blockIoerr
  -- AWAIT_ACK (R195 to R199)
  | ackAdv
  | ackCan
  | ackRetry
  | ackRetryC
  | ackExhaust
  | ackExhaustC
  | ackIoerr
  -- RETRY (R202, R203)
  | retrySend
  | retryIoerr
  -- SEND_EOT (R205, R206)
  | eotSend
  | eotIoerr
  -- AWAIT_EOT_ACK (R208 to R212)
  | eotackDone
  | eotackCan
  | eotackRetry
  | eotackRetryC
  | eotackExhaust
  | eotackExhaustC
  | eotackIoerr
deriving DecidableEq, Repr

end Sys2Proof
end

