-- ==== Sys2Proof/Config.lean ====
section
/-! DEFINITION. Sys2Proof/Config.lean: the parameters of a session (R7, R34) and the free values: what the spec
leaves to the environment (R13) or calls unspecified. A free value is an opaque constant with no body: nothing in
Lean evaluates it, so a theorem holds for every value of it. -/

namespace Sys2Proof

/-- The configuration parameters (R7, R34): written by the driver before the session, constant during it.
Durations are in milliseconds. `SRC` itself is a field of State. -/
structure Params where
  padByte       : Byte
  maxRetries    : Nat
  maxStartPolls : Nat
  tStart        : Nat
  tAck          : Nat
  tEot          : Nat
  countW        : Nat
deriving DecidableEq, Repr

/-- The parameters where the driver sets nothing (R7, R302): the spec's defaults for PAD_BYTE, MAX_RETRIES, T_ACK,
T_EOT and COUNT_W. MAX_START_POLLS and T_START have no default in the spec: DESIGN CHOICE, notes/assumptions/3.md. -/
def Params.standard : Params where
  padByte := 0x1A
  maxRetries := 16
  maxStartPolls := 10
  tStart := 10000
  tAck := 10000
  tEot := 10000
  countW := 32

/-- The level of `cancel_req` at a sampling the driver has not scheduled (R13; notes/assumptions/5.md). -/
opaque Config.freeCancel : Nat → Bool

/-- The answer of a source read the environment has not scheduled (R13; notes/assumptions/5.md). -/
opaque Config.freeSource : Nat → SourceAnswer

/-- The answer of a channel read the environment has not scheduled (R13; notes/assumptions/5.md). -/
opaque Config.freeRead : Nat → ReadAnswer

/-- The answer of a channel write the environment has not scheduled (R13; notes/assumptions/5.md). -/
opaque Config.freeWrite : Nat → WriteAnswer

/-- How many bytes of a failed write reached `TX`: R67 does not say (notes/assumptions/6.md). -/
opaque Config.freePartial : Nat → Nat

/-- The value of `crc` after `RESET`: unspecified (R39, R241; notes/assumptions/7.md). -/
opaque Config.freeCrc : Nat → Word16

/-- The byte at an index of `payload_buf` after `RESET`: unspecified (R39, R241; notes/assumptions/7.md). -/
opaque Config.freePay : Nat → Nat → Byte

end Sys2Proof
end

