-- ==== Sys2Proof/Machine/Codes.lean ====
section
/-! DEFINITION. Sys2Proof/Machine/Codes.lean: the byte constants of the wire (R8), the classification of a received
byte (R108), the numeric codes of states, reasons, stimuli and event fields (R111, R112, R248), the builders of the
three event records (R245), and the two maps from a reason to what the driver reports (R269). -/

namespace Sys2Proof.Machine

/-- Start of header, the first byte of a data frame (R8). -/
def sohByte : Byte := 0x01

/-- End of transmission (R8, R102). -/
def eotByte : Byte := 0x04

/-- Acknowledge (R8). -/
def ackByte : Byte := 0x06

/-- Negative acknowledge (R8). -/
def nakByte : Byte := 0x15

/-- CANCEL (R8). -/
def canByte : Byte := 0x18

/-- 'C', the start-of-transfer probe; START_BYTE of R7 (R8). -/
def startByte : Byte := 0x43

/-- BLOCK_LEN (R7). -/
def blockLen : Nat := 128

/-- FRAME_LEN (R7). -/
def frameLen : Nat := 133

/-- The control class of a received byte, on all 8 bits and independently of the state (R108). -/
def classify (b : Byte) : ControlClass :=
  if b = ackByte then .ack
  else if b = nakByte then .nak
  else if b = canByte then .can
  else if b = startByte then .start
  else .other

/-- The stimulus a control class gives (R112). -/
def classStimulus : ControlClass → Stimulus
  | .ack => .ack
  | .nak => .nak
  | .can => .can
  | .start => .start
  | .other => .other

/-- The stimulus of a channel read's answer; an I/O error is not a stimulus class (R112). -/
def stimulus : ReadAnswer → Option Stimulus
  | .byte b => some (classStimulus (classify b))
  | .timeout => some .timeout
  | .ioError => none

/-- State codes (R111). -/
def stateCode : Fsm → BitVec 3
  | .awaitStart => 0
  | .sendBlock => 1
  | .awaitAck => 2
  | .retry => 3
  | .sendEot => 4
  | .awaitEotAck => 5
  | .done => 6
  | .failed => 7

/-- The state of a code (R111); every 3-bit value is one. -/
def stateOfCode (c : BitVec 3) : Fsm :=
  if c = 0 then .awaitStart
  else if c = 1 then .sendBlock
  else if c = 2 then .awaitAck
  else if c = 3 then .retry
  else if c = 4 then .sendEot
  else if c = 5 then .awaitEotAck
  else if c = 6 then .done
  else .failed

/-- Reason codes (R111); `none` is 0. -/
def reasonCode : Option FailReason → BitVec 3
  | none => 0
  | some .noStartSignal => 1
  | some .maxRetriesExceeded => 2
  | some .peerCancelled => 3
  | some .eotNotAcked => 4
  | some .ioError => 5
  | some .cancelledLocally => 6

/-- Stimulus codes (R112). -/
def stimCode : Stimulus → BitVec 3
  | .none => 0
  | .ack => 1
  | .can => 2
  | .start => 3
  | .nak => 4
  | .timeout => 5
  | .other => 6

/-- Event kind codes (R245, R248). -/
def kindCode : EventKind → BitVec 2
  | .tx => 1
  | .rx => 2
  | .trans => 3

/-- Outcome codes of an event record (R248). -/
def outcomeCode : EventOutcome → BitVec 4
  | .none => 0
  | .ok => 1
  | .done => 2
  | .reason .noStartSignal => 3
  | .reason .maxRetriesExceeded => 4
  | .reason .peerCancelled => 5
  | .reason .eotNotAcked => 6
  | .reason .ioError => 7
  | .reason .cancelledLocally => 8
  | .cls .ack => 9
  | .cls .nak => 10
  | .cls .can => 11
  | .cls .start => 12
  | .cls .other => 13

/-- `EV_TX`: a `ChWrite` returned `Ok`; `n` is 133 for a frame and 1 for an EOT (R245). The `from` and `to` fields
are code 0, AWAIT_START's (R248). -/
def evTx (seq : Byte) (n : Byte) : Event :=
  { kind := .tx, seq := seq, byteCount := n, outcome := .ok,
    fromState := .awaitStart, toState := .awaitStart, value := 0 }

/-- `EV_RX`: a `ChRead` returned `Byte(b)` (R245, R248). -/
def evRx (seq : Byte) (b : Byte) : Event :=
  { kind := .rx, seq := seq, byteCount := 1, outcome := .cls (classify b),
    fromState := .awaitStart, toState := .awaitStart, value := b }

/-- `EV_TRANS`: the last event of every step (R245, R247). -/
def evTrans (seq : Byte) (src dst : Fsm) (o : EventOutcome) : Event :=
  { kind := .trans, seq := seq, byteCount := 0, outcome := o,
    fromState := src, toState := dst, value := 0 }

/-- An event record in bits, its fields in R248's order from the top: `kind`, `seq`, `byte_count`, `outcome`, `from`,
`to`, `value`, of R248's widths. R248 gives the widths and no bit positions: DESIGN CHOICE, notes/assumptions/14.md. -/
def eventBits (e : Event) : BitVec 36 :=
  kindCode e.kind ++ e.seq ++ e.byteCount ++ outcomeCode e.outcome ++ stateCode e.fromState ++ stateCode e.toState
    ++ e.value

/-- The error kind that escapes for a reason (R269). -/
def errorKind : FailReason → ErrorKind
  | .noStartSignal => .retriesExhausted
  | .maxRetriesExceeded => .retriesExhausted
  | .eotNotAcked => .retriesExhausted
  | .peerCancelled => .peerCancelled
  | .ioError => .ioError
  | .cancelledLocally => .localCancellation

/-- The outcome class of a finished session by its reason (R269). -/
def outcomeClass : Option FailReason → OutcomeClass
  | none => .success
  | some .noStartSignal => .timedOut
  | some .maxRetriesExceeded => .timedOut
  | some .eotNotAcked => .timedOut
  | some .peerCancelled => .aborted
  | some .ioError => .aborted
  | some .cancelledLocally => .aborted

end Sys2Proof.Machine
end

