-- ==== Sys2Proof/Machine/Crc.lean ====
section
/-! DEFINITION. Sys2Proof/Machine/Crc.lean: the CRC Engine as pure functions (R140 to R146): CRC-CCITT, polynomial
0x1021, initial value 0x0000, no reflection, no final XOR, most significant bit first. -/

namespace Sys2Proof.Machine

/-- CRC_POLY (R7, R140). -/
def crcPoly : Word16 := 0x1021

/-- CRC_INIT (R7, R140). -/
def crcStart : Word16 := 0x0000

/-- One round: the test is on bit 15 before the shift (R142). -/
def crcRound (r : Word16) : Word16 :=
  if r.getLsbD 15 then (r <<< 1) ^^^ crcPoly else r <<< 1

/-- `n` rounds. -/
def crcRounds : Nat → Word16 → Word16
  | 0, r => r
  | n + 1, r => crcRounds n (crcRound r)

/-- One input byte: XOR into the high byte, then 8 rounds (R143). -/
def crcByte (r : Word16) (b : Byte) : Word16 :=
  crcRounds 8 (r ^^^ (b.setWidth 16 <<< 8))

/-- `k r`, with `r` brought to a numeral first: the case distinction changes no value and keeps a long evaluation from
building one deep term (`withNumeral_eq`, Sys2Proof/Laws/Crc.lean). -/
def withNumeral (r : Word16) (k : Word16 → Word16) : Word16 :=
  match r.toNat with
  | 0 => k 0
  | n + 1 => k (BitVec.ofNat 16 (n + 1))

/-- The bytes of a sequence in increasing index, from a given register value (R69). -/
def crcOver (r : Word16) : List Byte → Word16
  | [] => r
  | b :: bs => withNumeral (crcByte r b) fun q => crcOver q bs

/-- `compute_crc`, over a byte sequence of any length (R144, R145). -/
def computeCrc (bs : List Byte) : Word16 :=
  crcOver crcStart bs

/-- `crc[15:8]`, sent first (R68, R107). -/
def crcHi (r : Word16) : Byte := r.extractLsb' 8 8

/-- `crc[7:0]`, sent second (R68, R107). -/
def crcLo (r : Word16) : Byte := r.extractLsb' 0 8

end Sys2Proof.Machine
end

