-- ==== Sys2Proof/Machine/Framer.lean ====
section
/-! DEFINITION. Sys2Proof/Machine/Framer.lean: the Block Framer as pure functions (R160 to R167), and the function
that advances a sequence number (R200). -/

namespace Sys2Proof.Machine

/-- `FR.PAD`: the chunk followed by pad bytes up to 128 (R161, R106). The caller guarantees at most 128 bytes (R165);
the operations that take a chunk from outside check it. -/
def padChunk (pad : Byte) (c : List Byte) : List Byte :=
  c ++ List.replicate (blockLen - c.length) pad

/-- `FR.CMPL`: `255 - s` (R162, R105). -/
def seqCmpl (s : Byte) : Byte := 255 - s

/-- The 133 bytes of a frame around a payload and its CRC (R101). -/
def layFrame (s cmpl : Byte) (payload : List Byte) (hi lo : Byte) : List Byte :=
  [sohByte, s, cmpl] ++ payload ++ [hi, lo]

/-- `frame(s, c)`: padding first, then the CRC over all 128 bytes, then the layout (R163). -/
def frameBytes (pad : Byte) (s : Byte) (c : List Byte) : List Byte :=
  layFrame s (seqCmpl s) (padChunk pad c)
    (crcHi (computeCrc (padChunk pad c))) (crcLo (computeCrc (padChunk pad c)))

/-- `next_seq`: "mod 256, skipping 0" (R200). -/
def nextSeq (s : Byte) : Byte :=
  if s = 255 then 1 else s + 1

end Sys2Proof.Machine
end

