-- ==== Sys2Proof/WellFormed.lean ====
section
/-! DEFINITION. Sys2Proof/WellFormed.lean: which instructions are well formed. A check stands here for every operand
the spec bounds: `RX.OTHER` is the default row and excludes the four named bytes (R114), a frame carries the complement
of its number, 128 payload bytes and their CRC (R101), and the framer takes at most 128 bytes (R165). -/

namespace Sys2Proof

/-- The check of one instruction's operands. -/
def Instr.wellFormed : Instr → Bool
  | .rxOther b => decide (Machine.classify b = .other)
  | .txFrame s cmpl p hi lo =>
      decide (p.length = Machine.blockLen) && decide (cmpl = Machine.seqCmpl s)
        && decide (hi = Machine.crcHi (Machine.computeCrc p))
        && decide (lo = Machine.crcLo (Machine.computeCrc p))
  | .frPad c => decide (c.length ≤ Machine.blockLen)
  | .frFrame _ c => decide (c.length ≤ Machine.blockLen)
  | .crcBlock _ | .rxAck | .rxNak | .rxCan | .rxStart | .txEot | .crcInit | .crcRound | .crcByte _ | .frCmpl _
  | .srcRead _ _ | .chRead _ | .chWrite _ | .reset | .evtEmit _ | .cancel | .cancelHi | .haltDone | .haltFailed
  | .startGo | .startCan | .startIoerr | .startPoll | .startPollAck | .startExhaust | .startExhaustAck
  | .blockSend | .blockSendEmpty | .blockEof | .blockIoerr | .ackAdv | .ackCan | .ackRetry | .ackRetryC
  | .ackExhaust | .ackExhaustC | .ackIoerr | .retrySend | .retryIoerr | .eotSend | .eotIoerr | .eotackDone
  | .eotackCan | .eotackRetry | .eotackRetryC | .eotackExhaust | .eotackExhaustC | .eotackIoerr => true

end Sys2Proof
end

