-- ==== Sys2Proof/Decode.lean ====
section
/-! DEFINITION. Sys2Proof/Decode.lean: the decoder, total on every word of the five formats of the opcode table and
rejecting by name; after it the encoder, written from the same tables; and `decodeTableWord`, the host's entry.
The spec's formats are separate spaces (a received byte 0x06 and the operation selector 6 are different things), so a
word carries its format (`Call`, Sys2Proof/Word.lean). -/

namespace Sys2Proof

/-- A row of format `fsm_key`: it applies when `key AND mask` equals `bits` (R113). -/
structure KeyRow where
  bits  : BitVec 10
  mask  : BitVec 10
  instr : Instr
deriving DecidableEq, Repr

/-- The row's test on a key (R113). -/
def KeyRow.applies (r : KeyRow) (k : BitVec 10) : Bool :=
  k &&& r.mask == r.bits

/-- Rows of format `fsm_key` (`CANCEL`, `CANCEL.HI`, `HALT.DONE`, `HALT.FAILED`), match and mask as spec/opcode_table.json has them. -/
def terminalRows : List KeyRow :=
  [⟨0x200, 0x280, .cancel⟩,
   ⟨0x280, 0x2C0, .cancelHi⟩,
   ⟨0x0C0, 0x0E0, .haltDone⟩,
   ⟨0x0E0, 0x0E0, .haltFailed⟩]

/-- Rows of format `fsm_key` (`START.GO`, `START.CAN`, `START.IOERR`, `START.POLL`, `START.POLL.ACK`, `START.EXHAUST`, `START.EXHAUST.ACK`), match and mask as spec/opcode_table.json has them. -/
def startRows : List KeyRow :=
  [⟨0x00C, 0x3FC, .startGo⟩,
   ⟨0x008, 0x3FC, .startCan⟩,
   ⟨0x100, 0x3E0, .startIoerr⟩,
   ⟨0x010, 0x3F1, .startPoll⟩,
   ⟨0x004, 0x3FD, .startPollAck⟩,
   ⟨0x011, 0x3F1, .startExhaust⟩,
   ⟨0x005, 0x3FD, .startExhaustAck⟩]

/-- Rows of format `fsm_key` (`BLOCK.SEND`, `BLOCK.SEND_EMPTY`, `BLOCK.EOF`, `BLOCK.IOERR`), match and mask as spec/opcode_table.json has them. -/
def blockRows : List KeyRow :=
  [⟨0x020, 0x3FD, .blockSend⟩,
   ⟨0x023, 0x3FF, .blockSendEmpty⟩,
   ⟨0x021, 0x3FF, .blockEof⟩,
   ⟨0x120, 0x3E0, .blockIoerr⟩]

/-- Rows of format `fsm_key` (`ACK.ADV`, `ACK.CAN`, `ACK.RETRY`, `ACK.RETRY.C`, `ACK.EXHAUST`, `ACK.EXHAUST.C`, `ACK.IOERR`), match and mask as spec/opcode_table.json has them. -/
def ackRows : List KeyRow :=
  [⟨0x044, 0x3FC, .ackAdv⟩,
   ⟨0x048, 0x3FC, .ackCan⟩,
   ⟨0x050, 0x3F1, .ackRetry⟩,
   ⟨0x04C, 0x3FD, .ackRetryC⟩,
   ⟨0x051, 0x3F1, .ackExhaust⟩,
   ⟨0x04D, 0x3FD, .ackExhaustC⟩,
   ⟨0x140, 0x3E0, .ackIoerr⟩]

/-- Rows of format `fsm_key` (`RETRY.SEND`, `RETRY.IOERR`, `EOT.SEND`, `EOT.IOERR`), match and mask as spec/opcode_table.json has them. -/
def retryEotRows : List KeyRow :=
  [⟨0x060, 0x3FC, .retrySend⟩,
   ⟨0x160, 0x3E0, .retryIoerr⟩,
   ⟨0x080, 0x3FC, .eotSend⟩,
   ⟨0x180, 0x3E0, .eotIoerr⟩]

/-- Rows of format `fsm_key` (`EOTACK.DONE`, `EOTACK.CAN`, `EOTACK.RETRY`, `EOTACK.RETRY.C`, `EOTACK.EXHAUST`, `EOTACK.EXHAUST.C`, `EOTACK.IOERR`), match and mask as spec/opcode_table.json has them. -/
def eotAckRows : List KeyRow :=
  [⟨0x0A4, 0x3FC, .eotackDone⟩,
   ⟨0x0A8, 0x3FC, .eotackCan⟩,
   ⟨0x0B0, 0x3F1, .eotackRetry⟩,
   ⟨0x0AC, 0x3FD, .eotackRetryC⟩,
   ⟨0x0B1, 0x3F1, .eotackExhaust⟩,
   ⟨0x0AD, 0x3FD, .eotackExhaustC⟩,
   ⟨0x1A0, 0x3E0, .eotackIoerr⟩]

/-- All rows of format `fsm_key`, in the table's order. -/
def keyRows : List KeyRow :=
  terminalRows ++ startRows ++ blockRows ++ ackRows ++ retryEotRows ++ eotAckRows

/-- The transition a key selects; a key that matches no row is refused (R113). -/
def decodeKey (k : BitVec 10) : Except DecodeError Instr :=
  match keyRows.find? (fun r => r.applies k) with
  | some r => .ok r.instr
  | none => .error .noTransition

/-- The row of a received byte: the four exact rows, else the default row `RX.OTHER` (R108, R114). -/
def decodeRxByte (b : Byte) : Instr :=
  match Machine.classify b with
  | .ack => .rxAck
  | .nak => .rxNak
  | .can => .rxCan
  | .start => .rxStart
  | .other => .rxOther b

/-- The one-byte transmitted format (R102). -/
def decodeTxByte (b : Byte) : Except DecodeError Instr :=
  if b = Machine.eotByte then .ok .txEot else .error .notEot

/-- The 133-byte transmitted format: SOH, number, complement, 128 payload bytes, two CRC bytes (R101). -/
def decodeTxFrame : List Byte → Except DecodeError Instr
  | soh :: s :: cmpl :: rest =>
      match rest.drop Machine.blockLen with
      | [hi, lo] =>
          if soh = Machine.sohByte then .ok (.txFrame s cmpl (rest.take Machine.blockLen) hi lo)
          else .error .badFrame
      | _ => .error .badFrame
  | _ => .error .badFrame

/-- The operation of a selector, with the operands its rule names taken from the call (R114). -/
def decodeOp (sel : BitVec 4) (a : CallArgs) : Except DecodeError Instr :=
  match sel.toNat with
  | 0 => .ok .crcInit
  | 1 => .ok .crcRound
  | 2 => .ok (.crcByte a.byte)
  | 3 => .ok (.crcBlock a.bytes)
  | 4 => .ok (.frPad a.bytes)
  | 5 => .ok (.frCmpl a.byte)
  | 6 => .ok (.frFrame a.byte a.bytes)
  | 7 => .ok (.srcRead a.pos a.count)
  | 8 => .ok (.chRead a.timeout)
  | 9 => .ok (.chWrite a.bytes)
  | 10 => .ok .reset
  | 11 => .ok (.evtEmit a.event)
  | _ => .error .unusedSelector

/-- The decoder. -/
def decode : Call → Except DecodeError Instr
  | .rxByte b => .ok (decodeRxByte b)
  | .txByte b => decodeTxByte b
  | .txFrame bs => decodeTxFrame bs
  | .op sel args => decodeOp sel args
  | .fsmKey k => decodeKey k

/-- Operands of an operation that takes none. -/
def noArgs : CallArgs where
  byte := 0
  bytes := []
  pos := 0
  count := 0
  timeout := 0
  event := { kind := .tx, seq := 0, byteCount := 0, outcome := .none,
             fromState := .awaitStart, toState := .awaitStart, value := 0 }

/-- The encoder: the word of an instruction, don't-care bits of a transition key 0. -/
def encode : Instr → Call
  | .rxAck => .rxByte 0x06
  | .rxNak => .rxByte 0x15
  | .rxCan => .rxByte 0x18
  | .rxStart => .rxByte 0x43
  | .rxOther b => .rxByte b
  | .txFrame s cmpl p hi lo => .txFrame (Machine.layFrame s cmpl p hi lo)
  | .txEot => .txByte 0x04
  | .crcInit => .op 0 noArgs
  | .crcRound => .op 1 noArgs
  | .crcByte b => .op 2 { noArgs with byte := b }
  | .crcBlock p => .op 3 { noArgs with bytes := p }
  | .frPad c => .op 4 { noArgs with bytes := c }
  | .frCmpl s => .op 5 { noArgs with byte := s }
  | .frFrame s c => .op 6 { noArgs with byte := s, bytes := c }
  | .srcRead pos count => .op 7 { noArgs with pos := pos, count := count }
  | .chRead t => .op 8 { noArgs with timeout := t }
  | .chWrite bs => .op 9 { noArgs with bytes := bs }
  | .reset => .op 10 noArgs
  | .evtEmit e => .op 11 { noArgs with event := e }
  | .cancel => .fsmKey 0x200
  | .cancelHi => .fsmKey 0x280
  | .haltDone => .fsmKey 0x0C0
  | .haltFailed => .fsmKey 0x0E0
  | .startGo => .fsmKey 0x00C
  | .startCan => .fsmKey 0x008
  | .startIoerr => .fsmKey 0x100
  | .startPoll => .fsmKey 0x010
  | .startPollAck => .fsmKey 0x004
  | .startExhaust => .fsmKey 0x011
  | .startExhaustAck => .fsmKey 0x005
  | .blockSend => .fsmKey 0x020
  | .blockSendEmpty => .fsmKey 0x023
  | .blockEof => .fsmKey 0x021
  | .blockIoerr => .fsmKey 0x120
  | .ackAdv => .fsmKey 0x044
  | .ackCan => .fsmKey 0x048
  | .ackRetry => .fsmKey 0x050
  | .ackRetryC => .fsmKey 0x04C
  | .ackExhaust => .fsmKey 0x051
  | .ackExhaustC => .fsmKey 0x04D
  | .ackIoerr => .fsmKey 0x140
  | .retrySend => .fsmKey 0x060
  | .retryIoerr => .fsmKey 0x160
  | .eotSend => .fsmKey 0x080
  | .eotIoerr => .fsmKey 0x180
  | .eotackDone => .fsmKey 0x0A4
  | .eotackCan => .fsmKey 0x0A8
  | .eotackRetry => .fsmKey 0x0B0
  | .eotackRetryC => .fsmKey 0x0AC
  | .eotackExhaust => .fsmKey 0x0B1
  | .eotackExhaustC => .fsmKey 0x0AD
  | .eotackIoerr => .fsmKey 0x1A0

/-- The 133 bytes of a frame numbered as the table numbers them: 1064 bits, offset 0 leftmost (R101). -/
def frameBytesOfNat (w : Nat) : List Byte :=
  (List.range Machine.frameLen).map fun i => BitVec.ofNat 8 (w >>> (8 * (Machine.frameLen - 1 - i)))

/-- One byte of the table without its format: the five exact wire bytes come first, then the operation selectors,
then the default row (DESIGN CHOICE, notes/assumptions/10.md). -/
def tableByte (w : Nat) : Call :=
  if w = 0x04 then .txByte 0x04
  else if w = 0x06 ∨ w = 0x15 ∨ w = 0x18 ∨ w = 0x43 then .rxByte (BitVec.ofNat 8 w)
  else if w < 12 then .op (BitVec.ofNat 4 w) noArgs
  else .rxByte (BitVec.ofNat 8 w)

/-- A word of the opcode table by its length in bits: 1064 a frame; 8 a byte; 10 or 16 a transition key, of which bits
9 to 0 are the key; 4 an operation selector. Operands the table gives no bits are 0. -/
def tableCall (nbits w : Nat) : Option Call :=
  if nbits = 8 then (if w < 256 then some (tableByte w) else none)
  else if nbits = 10 ∨ nbits = 16 then (if w < 1024 then some (.fsmKey (BitVec.ofNat 10 w)) else none)
  else if nbits = 4 then (if w < 16 then some (.op (BitVec.ofNat 4 w) noArgs) else none)
  else if nbits = 8 * Machine.frameLen then some (.txFrame (frameBytesOfNat w))
  else none

/-- The instruction the decoder reads from a word of the opcode table. -/
def decodeTableWord (nbits w : Nat) : Option Instr :=
  match tableCall nbits w with
  | some c =>
      match decode c with
      | .ok i => some i
      | .error _ => none
  | none => none

end Sys2Proof
end

