-- ==== Sys2Proof/Machine/State.lean ====
section
/-! DEFINITION. Sys2Proof/Machine/State.lean: the state, as plain data: the session registers of R21, the parameters and
the source of the run (R7, R40), the environment's answers still to come (R13, R37), the outputs a run leaves to be
observed (R15), and the calls waiting to be performed (R240, R241). -/

namespace Sys2Proof.Machine

/-- Why the machine stops. -/
inductive Fault where
  /-- No step exists in DONE or FAILED (R216). Raised by `HALT.DONE` and `HALT.FAILED`. Safe: the spec has no step
  there either. -/
  | sessionOver
deriving DecidableEq, Repr

/-- Why the model gives no next state. -/
inductive Refusal where
  /-- An instruction of the opcode table without a meaning. Raised by exec's own arms only. Safe. -/
  | notModelled (mnemonic : String)
  /-- A transition row executed in a state or on an answer its key does not match (R113: a model refuses). Raised by
  the meanings of the transition rows and of the received-byte rows. Safe. -/
  | rowDoesNotApply
  /-- An index of the payload buffer outside 0 to 127 (R62: a model refuses one). Raised by the access operations of
  the buffer. Safe. -/
  | payIndex
  /-- A chunk longer than 128 bytes given to the framer (R165: a model refuses it). Raised by `FR.PAD` and `FR.FRAME`.
  Safe. -/
  | chunkTooLong
  /-- A decoded instruction that is not well formed. Raised by step before it executes a call. Safe. -/
  | illFormed
  /-- A word the decoder rejects, with its reason (R101, R102, R113, R114). Raised by step. Safe. -/
  | undecodable (e : DecodeError)
  /-- A configuration the spec excludes: no poll allowed, or a source of 2^COUNT_W bytes or more (R7, R34). Raised by
  step before a transition. Safe. -/
  | illegalConfig
deriving DecidableEq, Repr

structure State where
  -- parameters of the session and the source (R7, R34, R40)
  cfg         : Params
  src         : List Byte
  -- session registers (R21)
  fsm         : Fsm
  seq         : Byte
  crc         : Word16
  pay         : List Host.Cell
  chunkLen    : BitVec 8
  retryCount  : Nat
  pollCount   : Nat
  filePos     : Nat
  bytesSent   : Nat
  blockIndex  : Nat
  reason      : Option FailReason
  -- the environment's answers still to come, oldest first (R13, R37, R115)
  cancelReq   : List Bool
  srcAnswers  : List SourceAnswer
  rx          : List ReadAnswer
  wrAnswers   : List WriteAnswer
  -- outputs (R15): the TX stream, the arguments of ChWrite, the timeouts of ChRead, the event stream
  tx          : List Byte
  writes      : List (List Byte)
  reads       : List Nat
  events      : List Event
  -- directly invoked operations: those waiting, oldest first, and the last one's answer (R240)
  calls       : List Call
  answer      : CallAnswer
  -- the model's own: how many free values have been drawn
  tick        : Nat
deriving DecidableEq, Repr

/-- The machine right after reset (R39, R301). The values the spec leaves open are named in notes/assumptions/: `crc`
and the payload buffer 2, the parameters 3, the source and the empty input lists 4, the model's own fields 8 and 9. -/
def State.reset : State where
  cfg := Params.standard
  src := []
  fsm := .awaitStart
  seq := 0
  crc := 0
  pay := []
  chunkLen := 0
  retryCount := 0
  pollCount := 0
  filePos := 0
  bytesSent := 0
  blockIndex := 0
  reason := none
  cancelReq := []
  srcAnswers := []
  rx := []
  wrAnswers := []
  tx := []
  writes := []
  reads := []
  events := []
  calls := []
  answer := .none
  tick := 0

end Sys2Proof.Machine
end

