-- ==== Sys2Proof/Machine/Flags.lean ====
section
/-! DEFINITION. Sys2Proof/Machine/Flags.lean: the derived conditions of a step (R33), the tests on a read's answer that
select a transition (R112, R113), and the check of the configuration (R7, R34). -/

namespace Sys2Proof.Machine

/-- `first_chunk` (R33, R31). -/
def firstChunk (s : State) : Bool := decide (s.blockIndex = 0)

/-- `bound_hit`: the increment about to be made exceeds the bound (R33). -/
def boundHit (s : State) : Bool := decide (s.retryCount + 1 > s.cfg.maxRetries)

/-- `last_poll`: the poll just made was the last one allowed (R33). -/
def lastPoll (s : State) : Bool := decide (s.pollCount + 1 ≥ s.cfg.maxStartPolls)

/-- The answer has this stimulus. -/
def isStim (st : Stimulus) (a : ReadAnswer) : Bool := decide (stimulus a = some st)

/-- The answer is a NAK, a timeout or an unlisted byte: the pattern `1xx` (R112). -/
def isNakTimeoutOther (a : ReadAnswer) : Bool :=
  match stimulus a with
  | some .nak | some .timeout | some .other => true
  | some .none | some .ack | some .can | some .start | none => false

/-- The answer is an I/O error. -/
def isIoError (a : ReadAnswer) : Bool := decide (a = .ioError)

/-- DONE and FAILED (R22). -/
def isTerminal (f : Fsm) : Bool := decide (f = .done) || decide (f = .failed)

/-- The configuration is one the spec admits: `MAX_START_POLLS` at least 1, `SRC_LEN` below 2^`COUNT_W` (R7, R34). -/
def legalConfig (s : State) : Bool :=
  decide (1 ≤ s.cfg.maxStartPolls) && decide (s.src.length < 2 ^ s.cfg.countW)

end Sys2Proof.Machine
end

