-- ==== Sys2Proof/Machine/Memory.lean ====
section
/-! DEFINITION. Sys2Proof/Machine/Memory.lean: the payload buffer `payload_buf` seen as the memory `PAY` (R36, R62): a list
of (index, byte) cells in one canonical form, indices strictly rising and no cell equal to what an unlisted index reads
as. -/

namespace Sys2Proof.Machine

/-- What an index no write has reached reads as. The spec leaves the buffer's reset contents unspecified (R39):
DESIGN CHOICE, notes/assumptions/2.md. -/
def unwrittenByte : Byte := 0x00

/-- One byte of the buffer. -/
def readByte : List Host.Cell → Nat → Byte
  | [], _ => unwrittenByte
  | (k, v) :: m, a => if k = a then v else readByte m a

/-- Write one byte, keeping the canonical form. -/
def writeByte : List Host.Cell → Nat → Byte → List Host.Cell
  | [], a, b => if b = unwrittenByte then [] else [(a, b)]
  | (k, v) :: m, a, b =>
      if a < k then (if b = unwrittenByte then (k, v) :: m else (a, b) :: (k, v) :: m)
      else if a = k then (if b = unwrittenByte then m else (a, b) :: m)
      else (k, v) :: writeByte m a b

/-- `n` bytes from index `a`. -/
def readBytes (m : List Host.Cell) (a : Nat) : Nat → List Byte
  | 0 => []
  | n + 1 => readByte m a :: readBytes m (a + 1) n

/-- A byte sequence written from index `a` on. -/
def writeBytes (m : List Host.Cell) (a : Nat) : List Byte → List Host.Cell
  | [] => m
  | b :: bs => writeBytes (writeByte m a b) (a + 1) bs

/-- Indices strictly rising from `lo` on and below 128, no cell equal to the unlisted value. -/
def cellsWf (lo : Nat) : List Host.Cell → Bool
  | [] => true
  | (k, v) :: m => decide (lo ≤ k) && decide (k < blockLen) && decide (v ≠ unwrittenByte) && cellsWf (k + 1) m

/-- The canonical form of the payload buffer. -/
def memoryWf (m : List Host.Cell) : Bool := cellsWf 0 m

end Sys2Proof.Machine
end

