-- ==== Sys2Proof/Machine/Ops.lean ====
section
/-! DEFINITION. Sys2Proof/Machine/Ops.lean: the named operations over the state that every meaning is written in: the
environment's answers, the channel and the source (R64 to R67), the payload buffer (R62), event emission (R246), the end
of a step, the entry to FAILED (R268), which is this block's exception, and session creation (R241), the only way out. -/

namespace Sys2Proof.Machine

/-- What a meaning answers. -/
abbrev Out := Host.Outcome State Fault Refusal

/-- Append one record to the event stream (R246). -/
def emit (e : Event) (s : State) : State :=
  { s with events := s.events ++ [e] }

/-- Sample `cancel_req`, once, at the top of a step (R242): the next scheduled level, or a free one. The block neither
latches nor clears the request. -/
def sampleCancel (s : State) : Bool × State :=
  (s.cancelReq.headD (Config.freeCancel s.tick),
   { s with cancelReq := s.cancelReq.tail, tick := s.tick + 1 })

/-- `MemRead(SRC, a, n)` (R64): the bytes `SRC[a .. min(a + n, SRC_LEN))`, or `IoError`. `file_pos` does not move. -/
def readSource (a n : Nat) (s : State) : SourceResult × State :=
  (match s.srcAnswers.headD (Config.freeSource s.tick) with
   | .ok => .chunk ((s.src.drop a).take n)
   | .ioError => .ioError,
   { s with srcAnswers := s.srcAnswers.tail, tick := s.tick + 1 })

/-- `ChRead(t)` (R66): at most one byte, consumed. The timeout asked for is recorded (R15, R279). -/
def readChannel (t : Nat) (s : State) : ReadAnswer × State :=
  (s.rx.headD (Config.freeRead s.tick),
   { s with rx := s.rx.tail, tick := s.tick + 1, reads := s.reads ++ [t] })

/-- `ChWrite(bs)` (R67): `Ok` when the whole sequence was written; a short count is an `IoError`, after which an
unspecified prefix of the sequence, a free one, has reached `TX`. -/
def writeChannel (bs : List Byte) (s : State) : WriteResult × State :=
  match s.wrAnswers.headD (Config.freeWrite s.tick) with
  | .full =>
      (.ok, { s with wrAnswers := s.wrAnswers.tail, tick := s.tick + 1, writes := s.writes ++ [bs],
                     tx := s.tx ++ bs })
  | .short | .error =>
      (.ioError, { s with wrAnswers := s.wrAnswers.tail, tick := s.tick + 1, writes := s.writes ++ [bs],
                          tx := s.tx ++ bs.take (Config.freePartial s.tick) })

/-- The answer of a direct call that wrote the channel. -/
def writeAnswer : WriteResult → CallAnswer
  | .ok => .ok
  | .ioError => .ioError

/-- `MemRead(PAY, a, n)` for `a + n <= 128`; any other index is refused (R62). -/
def readPay (a n : Nat) (s : State) : Option (List Byte) :=
  if a + n ≤ blockLen then some (readBytes s.pay a n) else none

/-- `MemWrite(PAY, a, len(v), v)` for `a + len(v) <= 128`; any other index is refused (R62). -/
def writePay (a : Nat) (v : List Byte) (s : State) : Option State :=
  if a + v.length ≤ blockLen then some { s with pay := writeBytes s.pay a v } else none

/-- The end of a step that began in `s0`: the `EV_TRANS` record, last in the step, then the next state (R181, R247). -/
def finish (s0 : State) (dst : Fsm) (o : EventOutcome) (s : State) : State :=
  { emit (evTrans s0.seq s0.fsm dst o) s with fsm := dst }

/-- `raise Failed(r)` in a step that began in `s0` (R268): `reason` and `state` are written, `EV_TRANS` carries the
reason, nothing is copied and nothing else changes. -/
def raiseFailed (s0 : State) (r : FailReason) (s : State) : State :=
  { finish s0 .failed (.reason r) s with reason := some r }

/-- The unspecified contents of the payload buffer after `RESET`, free bytes (R39, R241). -/
@[irreducible] def freePayload (n : Nat) : List Host.Cell :=
  writeBytes [] 0 ((List.range blockLen).map (Config.freePay n))

/-- Session creation (R241, R300): every session register takes its reset value, `crc` and the payload buffer an
unspecified one. The parameters, the source, the channel's streams and the event stream are not touched. There is no
other return from FAILED (R275). -/
def newSession (s : State) : State :=
  { s with
    fsm := .awaitStart, seq := 0, crc := Config.freeCrc s.tick, pay := freePayload s.tick, chunkLen := 0,
    retryCount := 0, pollCount := 0, filePos := 0, bytesSent := 0, blockIndex := 0, reason := none,
    tick := s.tick + 1 }

end Sys2Proof.Machine
end

