-- ==== Sys2Proof/Machine/Operands.lean ====
section
/-! DEFINITION. Sys2Proof/Machine/Operands.lean: the inputs of one step of the Sender State Machine (R11, R181): the
sampled request, the answer of its one channel operation or source read, and the state after each, and the three shapes
of a transition (a reading state, a writing state, SEND_BLOCK). Then the transition key of R113, formed from the same
inputs. -/

namespace Sys2Proof.Machine

/-- `cancel_req` as the step beginning in `s` samples it. -/
def cancelNow (s : State) : Bool := (sampleCancel s).1

/-- The state after the sampling. -/
def afterCancel (s : State) : State := (sampleCancel s).2

/-- The timeout a reading state asks for (R279); other states do not read. -/
def stateTimeout (s : State) : Nat :=
  match s.fsm with
  | .awaitStart => s.cfg.tStart
  | .awaitAck => s.cfg.tAck
  | .awaitEotAck => s.cfg.tEot
  | .sendBlock | .retry | .sendEot | .done | .failed => 0

/-- The answer of the step's channel read. -/
def readNow (s : State) : ReadAnswer := (readChannel (stateTimeout s) (afterCancel s)).1

/-- `EV_RX` for a byte that was read; a timeout or an error gives none (R245). -/
def noteRead (a : ReadAnswer) (s : State) : State :=
  match a with
  | .byte b => emit (evRx s.seq b) s
  | .timeout | .ioError => s

/-- The state after the sampling, the channel read and its `EV_RX`. -/
def afterRead (s : State) : State :=
  noteRead (readNow s) (readChannel (stateTimeout s) (afterCancel s)).2

/-- The result of SEND_BLOCK's source read: `MemRead(SRC, file_pos, 128)` (R64, R190). -/
def sourceNow (s : State) : SourceResult := (readSource s.filePos blockLen (afterCancel s)).1

/-- The state after the sampling and the source read. -/
def afterSource (s : State) : State := (readSource s.filePos blockLen (afterCancel s)).2

/-- A transition out of reading state `st`: it applies when the request is not set and the answer satisfies `p`
(R181); its registers and last event are `k`'s. -/
def onRead (st : Fsm) (p : ReadAnswer → Bool) (k : State → State) (s : State) : Out :=
  if s.fsm = st ∧ cancelNow s = false ∧ p (readNow s) = true then .next (k (afterRead s))
  else .refused .rowDoesNotApply

/-- A transition out of writing state `st` whose `ChWrite` of `bs` must end in `res`. -/
def onWrite (st : Fsm) (bs : List Byte) (res : WriteResult) (k : State → State) (s : State) : Out :=
  if s.fsm = st ∧ cancelNow s = false ∧ (writeChannel bs (afterCancel s)).1 = res then
    .next (k (writeChannel bs (afterCancel s)).2)
  else .refused .rowDoesNotApply

/-- The payload SEND_BLOCK makes of a chunk (R190). -/
def payloadOf (c : List Byte) (s : State) : List Byte := padChunk s.cfg.padByte c

/-- The frame SEND_BLOCK writes for a chunk (R190). -/
def frameOf (c : List Byte) (s : State) : List Byte := frameBytes s.cfg.padByte s.seq (payloadOf c s)

/-- The result of SEND_BLOCK's frame write for a chunk. -/
def frameWriteNow (c : List Byte) (s : State) : WriteResult := (writeChannel (frameOf c s) (afterSource s)).1

/-- The state after SEND_BLOCK's frame write. -/
def afterFrameWrite (c : List Byte) (s : State) : State := (writeChannel (frameOf c s) (afterSource s)).2

/-- The cached payload a retry sends: `MemRead(PAY, 0, 128)` (R202). -/
def cachedPayload (s : State) : List Byte := readBytes s.pay 0 blockLen

/-- The frame a retry writes (R202). -/
def retryFrame (s : State) : List Byte := frameBytes s.cfg.padByte s.seq (cachedPayload s)

/-- The registers of a first transmission and its last event, on the state `u` whose buffer already holds the payload
(R190): `chunk_len`, `retry_count`, and in `crc` the frame's CRC, which framing leaves there (DEDUCED,
notes/assumptions/11.md). -/
def transmitted (c : List Byte) (s u : State) : State :=
  finish s .awaitAck .none
    { u with crc := computeCrc (payloadOf c s), chunkLen := BitVec.ofNat 8 c.length, retryCount := 0 }

/-- The first transmission of a chunk (R190, R191): the frame is written and the payload cached. -/
def transmitChunk (c : List Byte) (s : State) : Out :=
  if frameWriteNow c s = .ok then
    match writePay 0 (payloadOf c s) (emit (evTx s.seq 133) (afterFrameWrite c s)) with
    | some u => .next (transmitted c s u)
    | none => .refused .payIndex
  else .refused .rowDoesNotApply

/-- The 10-bit transition key (R113): `cancel`, `ioerr`, `state`, `stim`, `cond[1]`, `cond[0]` from bit 9 down. -/
def mkKey (cancel ioerr : Bool) (st : Fsm) (stim : Stimulus) (c1 c0 : Bool) : BitVec 10 :=
  (BitVec.ofBool cancel ++ BitVec.ofBool ioerr ++ stateCode st ++ stimCode stim ++ BitVec.ofBool c1
    ++ BitVec.ofBool c0 : BitVec (1 + 1 + 3 + 3 + 1 + 1))

/-- The key of a step that read the channel: an I/O error has its own bit and leaves `stim` and `cond` 0. -/
def readKey (st : Fsm) (a : ReadAnswer) (c0 : Bool) : BitVec 10 :=
  match stimulus a with
  | some m => mkKey false false st m false c0
  | none => mkKey false true st .none false false

/-- The key of a step that wrote the channel. -/
def writeKey (st : Fsm) (w : WriteResult) (c1 c0 : Bool) : BitVec 10 :=
  match w with
  | .ok => mkKey false false st .none c1 c0
  | .ioError => mkKey false true st .none false false

/-- The key of a SEND_BLOCK step: `cond[0]` is `chunk_empty`, `cond[1]` is `first_chunk`; nothing is written when the
source is exhausted after the first chunk (R192). -/
def blockKey (s : State) : BitVec 10 :=
  match sourceNow s with
  | .ioError => mkKey false true .sendBlock .none false false
  | .chunk c =>
      if c.isEmpty && !firstChunk s then mkKey false false .sendBlock .none false true
      else writeKey .sendBlock (frameWriteNow c s) (firstChunk s) c.isEmpty

/-- The key of the step beginning in `s` (R113, R181). In DONE and FAILED nothing is sampled (R216). -/
def transitionKey (s : State) : BitVec 10 :=
  if isTerminal s.fsm then mkKey false false s.fsm .none false false
  else if cancelNow s then mkKey true false s.fsm .none false false
  else
    match s.fsm with
    | .awaitStart => readKey .awaitStart (readNow s) (lastPoll s)
    | .sendBlock => blockKey s
    | .awaitAck => readKey .awaitAck (readNow s) (boundHit s)
    | .retry => writeKey .retry (writeChannel (retryFrame s) (afterCancel s)).1 false false
    | .sendEot => writeKey .sendEot (writeChannel [eotByte] (afterCancel s)).1 false false
    | .awaitEotAck => readKey .awaitEotAck (readNow s) (boundHit s)
    | .done | .failed => mkKey false false s.fsm .none false false

/-- What the next step fetches: the oldest waiting call, else the transition the state and its inputs select (R113). -/
def fetch (s : State) : Except Refusal (Call × State) :=
  match s.calls with
  | c :: cs => .ok (c, { s with calls := cs })
  | [] => if legalConfig s then .ok (.fsmKey (transitionKey s), s) else .error .illegalConfig

/-- The read answer whose stimulus code is given (R112); code 0 and the unused code 7 give a timeout. -/
def answerOfStim (c : BitVec 3) : ReadAnswer :=
  if c = 1 then .byte ackByte
  else if c = 2 then .byte canByte
  else if c = 3 then .byte startByte
  else if c = 4 then .byte nakByte
  else if c = 6 then .byte 0x00
  else .timeout

/-- The condition bit 0 of AWAIT_START made true or false by the counter of polls. -/
def placePolls (c0 : Bool) (s : State) : State :=
  if c0 then { s with pollCount := s.cfg.maxStartPolls - 1 }
  else { s with pollCount := 0, cfg := { s.cfg with maxStartPolls := max s.cfg.maxStartPolls 2 } }

/-- The condition bit 0 of the two ACK states made true or false by the counter of retries. -/
def placeRetries (c0 : Bool) (s : State) : State :=
  if c0 then { s with retryCount := s.cfg.maxRetries }
  else { s with retryCount := 0, cfg := { s.cfg with maxRetries := max s.cfg.maxRetries 1 } }

/-- The condition bits of SEND_BLOCK: the cursor at the end of the source or before it, the first chunk or a later
one. -/
def placeChunk (c1 c0 : Bool) (s : State) : State :=
  { s with
    blockIndex := if c1 then 0 else max s.blockIndex 1,
    filePos := if c0 then s.src.length else 0,
    src := if c0 ∨ s.src.length ≠ 0 then s.src else [0x00] }

/-- The environment's next answers made those of key `k` for the state it names. -/
def placeAnswers (k : BitVec 10) (s : State) : State :=
  match s.fsm with
  | .awaitStart | .awaitAck | .awaitEotAck =>
      { s with rx := (if k.getLsbD 8 then .ioError else answerOfStim (k.extractLsb' 2 3)) :: s.rx }
  | .sendBlock =>
      { s with srcAnswers := (if k.getLsbD 8 then .ioError else .ok) :: s.srcAnswers,
               wrAnswers := .full :: s.wrAnswers }
  | .retry | .sendEot => { s with wrAnswers := (if k.getLsbD 8 then .error else .full) :: s.wrAnswers }
  | .done | .failed => s

/-- The condition bits of key `k` made true or false for the state it names. -/
def placeConds (k : BitVec 10) (s : State) : State :=
  match s.fsm with
  | .awaitStart => placePolls (k.getLsbD 0) s
  | .awaitAck | .awaitEotAck => placeRetries (k.getLsbD 0) s
  | .sendBlock => placeChunk (k.getLsbD 1) (k.getLsbD 0) s
  | .retry | .sendEot | .done | .failed => s

/-- All that makes the very next step select the transition of key `k`: no call waiting, the state, the request's
level and, where the key's priority order still looks at them (R113), the answers of the step's external operations and
its condition bits. -/
def placeKey (k : BitVec 10) (s : State) : State :=
  let u : State := { s with
    calls := [],
    fsm := stateOfCode (k.extractLsb' 5 3),
    cancelReq := k.getLsbD 9 :: s.cancelReq }
  if k.getLsbD 9 then u
  else if k.getLsbD 8 then placeAnswers k u
  else placeConds k (placeAnswers k u)

/-- A word of the opcode table placed where the next step fetches. -/
def placeWord (nbits w : Nat) (s : State) : State :=
  match tableCall nbits w with
  | some (.fsmKey k) => placeKey k s
  | some (.rxByte b) => { s with calls := .rxByte b :: s.calls }
  | some (.txByte b) => { s with calls := .txByte b :: s.calls }
  | some (.txFrame bs) => { s with calls := .txFrame bs :: s.calls }
  | some (.op sel args) => { s with calls := .op sel args :: s.calls }
  | none => s

end Sys2Proof.Machine
end

