-- ==== Sys2Proof/Machine/Ack.lean ====
section
/-! DEFINITION. Sys2Proof/Machine/Ack.lean: AWAIT_ACK: advance, retry or fail (R195 to R199), and RETRY: resend the same bytes (R202, R203). -/

namespace Sys2Proof.Machine

/-- One more bad answer (R27). -/
def countRetry (s : State) : State := { s with retryCount := s.retryCount + 1 }

/-- The acknowledgement of the current Block: cursor, byte count, block index and number advance (R195, R200). -/
def advance (s : State) : State :=
  { s with
    filePos := s.filePos + s.chunkLen.toNat,
    bytesSent := s.bytesSent + s.chunkLen.toNat,
    blockIndex := s.blockIndex + 1,
    seq := nextSeq s.seq }

/-- `ACK.ADV` (R195). -/
def execAckAdv (s : State) : Out :=
  onRead .awaitAck (isStim .ack) (fun u => finish s .sendBlock .none (advance u)) s

/-- `ACK.CAN` (R196). -/
def execAckCan (s : State) : Out :=
  onRead .awaitAck (isStim .can) (raiseFailed s .peerCancelled) s

/-- `ACK.RETRY`: a NAK, a timeout or an unlisted byte, within the bound (R197). -/
def execAckRetry (s : State) : Out :=
  onRead .awaitAck (fun a => isNakTimeoutOther a && !boundHit s)
    (fun u => finish s .retry .none (countRetry u)) s

/-- `ACK.RETRY.C`: a 'C', within the bound (R197). -/
def execAckRetryC (s : State) : Out :=
  onRead .awaitAck (fun a => isStim .start a && !boundHit s)
    (fun u => finish s .retry .none (countRetry u)) s

/-- `ACK.EXHAUST`: a NAK, a timeout or an unlisted byte, beyond the bound (R198). -/
def execAckExhaust (s : State) : Out :=
  onRead .awaitAck (fun a => isNakTimeoutOther a && boundHit s)
    (fun u => raiseFailed s .maxRetriesExceeded (countRetry u)) s

/-- `ACK.EXHAUST.C`: a 'C', beyond the bound (R198). -/
def execAckExhaustC (s : State) : Out :=
  onRead .awaitAck (fun a => isStim .start a && boundHit s)
    (fun u => raiseFailed s .maxRetriesExceeded (countRetry u)) s

/-- `ACK.IOERR` (R199). -/
def execAckIoerr (s : State) : Out :=
  onRead .awaitAck isIoError (raiseFailed s .ioError) s

/-- `RETRY.SEND`: the cached payload is framed again and written; `retry_count` keeps counting (R202). The engine
leaves the frame's CRC in `crc` (DEDUCED, notes/assumptions/11.md). -/
def execRetrySend (s : State) : Out :=
  onWrite .retry (retryFrame s) .ok
    (fun u => finish s .awaitAck .none
      { emit (evTx s.seq 133) u with crc := computeCrc (cachedPayload s) }) s

/-- `RETRY.IOERR` (R203). -/
def execRetryIoerr (s : State) : Out :=
  onWrite .retry (retryFrame s) .ioError (raiseFailed s .ioError) s

end Sys2Proof.Machine
end

