-- ==== Sys2Proof/Machine/Block.lean ====
section
/-! DEFINITION. Sys2Proof/Machine/Block.lean: SEND_BLOCK: read, frame, transmit (R190 to R193). -/

namespace Sys2Proof.Machine

/-- A SEND_BLOCK step that is not cancelled and whose source read gave a chunk. -/
def onChunk (k : List Byte → Out) (s : State) : Out :=
  if s.fsm = .sendBlock ∧ cancelNow s = false then
    match sourceNow s with
    | .chunk c => k c
    | .ioError => .refused .rowDoesNotApply
  else .refused .rowDoesNotApply

/-- `BLOCK.SEND`: a chunk of 1 to 128 bytes (R190). -/
def execBlockSend (s : State) : Out :=
  onChunk (fun c => if c.isEmpty then .refused .rowDoesNotApply else transmitChunk c s) s

/-- `BLOCK.SEND_EMPTY`: no byte, on the very first chunk: one Block of pad bytes (R191). -/
def execBlockSendEmpty (s : State) : Out :=
  onChunk (fun c => if c.isEmpty && firstChunk s then transmitChunk c s else .refused .rowDoesNotApply) s

/-- `BLOCK.EOF`: no byte, not the first chunk: no channel operation, the end phase begins (R192). -/
def execBlockEof (s : State) : Out :=
  onChunk (fun c =>
    if c.isEmpty && !firstChunk s then .next (finish s .sendEot .none { afterSource s with retryCount := 0 })
    else .refused .rowDoesNotApply) s

/-- `BLOCK.IOERR`: the source read failed, and nothing is written, or the frame's write failed (R193). -/
def execBlockIoerr (s : State) : Out :=
  if s.fsm = .sendBlock ∧ cancelNow s = false then
    match sourceNow s with
    | .ioError => .next (raiseFailed s .ioError (afterSource s))
    | .chunk c =>
        if (c.isEmpty && !firstChunk s) = false ∧ frameWriteNow c s = .ioError then
          .next (raiseFailed s .ioError (afterFrameWrite c s))
        else .refused .rowDoesNotApply
  else .refused .rowDoesNotApply

end Sys2Proof.Machine
end

