-- ==== Sys2Proof/Machine/Engine.lean ====
section
/-! DEFINITION. Sys2Proof/Machine/Engine.lean: the operations of the CRC Engine on the register `crc` (R141 to R145) and of
the Block Framer (R161 to R166). A result that is not a register is the call's answer (R240). -/

namespace Sys2Proof.Machine

/-- `CRC.INIT` (R141). -/
def execCrcInit (s : State) : Out := .next { s with crc := crcStart }

/-- `CRC.ROUND` (R142). -/
def execCrcRound (s : State) : Out := .next { s with crc := crcRound s.crc }

/-- `CRC.BYTE(b)` (R143). -/
def execCrcByte (b : Byte) (s : State) : Out := .next { s with crc := crcByte s.crc b }

/-- `CRC.BLOCK`: the register after the last byte, delivered high byte first (R144). A sequence of another length than
128 has the value of the general function (R145). -/
def execCrcBlock (payload : List Byte) (s : State) : Out :=
  .next { s with
    crc := computeCrc payload,
    answer := .bytes [crcHi (computeCrc payload), crcLo (computeCrc payload)] }

/-- `FR.PAD(c)` (R161); a chunk longer than 128 bytes is refused, never truncated (R165). -/
def execFrPad (c : List Byte) (s : State) : Out :=
  if c.length ≤ blockLen then .next { s with answer := .bytes (padChunk s.cfg.padByte c) }
  else .refused .chunkTooLong

/-- `FR.CMPL(s)` (R162). -/
def execFrCmpl (seq : Byte) (s : State) : Out := .next { s with answer := .byte (seqCmpl seq) }

/-- `FR.FRAME(s, c)` (R163): every number 0 to 255 is framed (R166); a chunk longer than 128 bytes is refused (R165).
The CRC Engine computes in `crc`, which keeps the frame's CRC (R21). -/
def execFrFrame (seq : Byte) (c : List Byte) (s : State) : Out :=
  if c.length ≤ blockLen then
    .next { s with
      crc := computeCrc (padChunk s.cfg.padByte c),
      answer := .bytes (frameBytes s.cfg.padByte seq c) }
  else .refused .chunkTooLong

end Sys2Proof.Machine
end

