-- ==== Sys2Proof/Machine/Eot.lean ====
section
/-! DEFINITION. Sys2Proof/Machine/Eot.lean: the end phase: SEND_EOT (R205, R206) and AWAIT_EOT_ACK (R208 to R212). -/

namespace Sys2Proof.Machine

/-- `EOT.SEND` (R205). -/
def execEotSend (s : State) : Out :=
  onWrite .sendEot [eotByte] .ok (fun u => finish s .awaitEotAck .none (emit (evTx s.seq 1) u)) s

/-- `EOT.IOERR` (R206). -/
def execEotIoerr (s : State) : Out :=
  onWrite .sendEot [eotByte] .ioError (raiseFailed s .ioError) s

/-- `EOTACK.DONE` (R208). -/
def execEotackDone (s : State) : Out :=
  onRead .awaitEotAck (isStim .ack) (finish s .done .done) s

/-- `EOTACK.CAN` (R209). -/
def execEotackCan (s : State) : Out :=
  onRead .awaitEotAck (isStim .can) (raiseFailed s .peerCancelled) s

/-- `EOTACK.RETRY`: a NAK, a timeout or an unlisted byte, within the bound (R210). -/
def execEotackRetry (s : State) : Out :=
  onRead .awaitEotAck (fun a => isNakTimeoutOther a && !boundHit s)
    (fun u => finish s .sendEot .none (countRetry u)) s

/-- `EOTACK.RETRY.C`: a 'C', within the bound (R210). -/
def execEotackRetryC (s : State) : Out :=
  onRead .awaitEotAck (fun a => isStim .start a && !boundHit s)
    (fun u => finish s .sendEot .none (countRetry u)) s

/-- `EOTACK.EXHAUST`: a NAK, a timeout or an unlisted byte, beyond the bound (R211). -/
def execEotackExhaust (s : State) : Out :=
  onRead .awaitEotAck (fun a => isNakTimeoutOther a && boundHit s)
    (fun u => raiseFailed s .eotNotAcked (countRetry u)) s

/-- `EOTACK.EXHAUST.C`: a 'C', beyond the bound (R211). -/
def execEotackExhaustC (s : State) : Out :=
  onRead .awaitEotAck (fun a => isStim .start a && boundHit s)
    (fun u => raiseFailed s .eotNotAcked (countRetry u)) s

/-- `EOTACK.IOERR` (R212). -/
def execEotackIoerr (s : State) : Out :=
  onRead .awaitEotAck isIoError (raiseFailed s .ioError) s

end Sys2Proof.Machine
end

