-- ==== Sys2Proof/Machine/Interface.lean ====
section
/-! DEFINITION. Sys2Proof/Machine/Interface.lean: the interface primitives performed directly (R64, R66, R67), `RESET`
(R241) and `EVT.EMIT` (R246). A primitive answers what its rule says and emits no event: events belong to steps (R181,
R77; DEDUCED, notes/assumptions/12.md). Where it answers `IoError` it writes no register, in whatever state: only a
transition raises `io_error` (R262; DESIGN CHOICE, notes/assumptions/24.md). -/

namespace Sys2Proof.Machine

/-- The answer of a direct source read. -/
def sourceAnswer : SourceResult → CallAnswer
  | .chunk c => .bytes c
  | .ioError => .ioError

/-- The answer of a direct channel read. -/
def readAnswer : ReadAnswer → CallAnswer
  | .byte b => .byte b
  | .timeout => .timeout
  | .ioError => .ioError

/-- `SRC.READ`: `MemRead(SRC, a, n)` (R64, R10). An `IoError` is answered and the session goes on (DESIGN CHOICE,
notes/assumptions/24.md). -/
def execSrcRead (pos count : Nat) (s : State) : Out :=
  .next { (readSource pos count s).2 with answer := sourceAnswer (readSource pos count s).1 }

/-- `CH.READ`: `ChRead(t)` (R66). An `IoError` is answered and the session goes on (DESIGN CHOICE,
notes/assumptions/24.md). -/
def execChRead (t : Nat) (s : State) : Out :=
  .next { (readChannel t s).2 with answer := readAnswer (readChannel t s).1 }

/-- `CH.WRITE`: `ChWrite(bs)` (R67). An `IoError` is answered and the session goes on, although R67 calls it over: R262
raises the failure in transitions alone (DESIGN CHOICE, notes/assumptions/24.md). -/
def execChWrite (bs : List Byte) (s : State) : Out :=
  .next { (writeChannel bs s).2 with answer := writeAnswer (writeChannel bs s).1 }

/-- `RESET`: a new session, from whatever state (R241; from a non-terminal one notes/assumptions/13.md). -/
def execReset (s : State) : Out := .next (newSession s)

/-- `EVT.EMIT`: the record is appended, no register written (R246). -/
def execEvtEmit (e : Event) (s : State) : Out := .next (emit e s)

end Sys2Proof.Machine
end

