-- ==== Sys2Proof/Machine/Start.lean ====
section
/-! DEFINITION. Sys2Proof/Machine/Start.lean: AWAIT_START, the handshake (R182 to R186). -/

namespace Sys2Proof.Machine

/-- One more unsuccessful poll (R28). -/
def countPoll (s : State) : State := { s with pollCount := s.pollCount + 1 }

/-- `START.GO` (R182). -/
def execStartGo (s : State) : Out :=
  onRead .awaitStart (isStim .start) (fun u => finish s .sendBlock .none { u with seq := 1 }) s

/-- `START.CAN` (R183). -/
def execStartCan (s : State) : Out :=
  onRead .awaitStart (isStim .can) (raiseFailed s .peerCancelled) s

/-- `START.IOERR` (R184). -/
def execStartIoerr (s : State) : Out :=
  onRead .awaitStart isIoError (raiseFailed s .ioError) s

/-- `START.POLL`: a NAK, a timeout or an unlisted byte, with polls left (R185). -/
def execStartPoll (s : State) : Out :=
  onRead .awaitStart (fun a => isNakTimeoutOther a && !lastPoll s)
    (fun u => finish s .awaitStart .none (countPoll u)) s

/-- `START.POLL.ACK`: an ACK, with polls left (R185). -/
def execStartPollAck (s : State) : Out :=
  onRead .awaitStart (fun a => isStim .ack a && !lastPoll s)
    (fun u => finish s .awaitStart .none (countPoll u)) s

/-- `START.EXHAUST`: the last poll brought a NAK, a timeout or an unlisted byte (R186). -/
def execStartExhaust (s : State) : Out :=
  onRead .awaitStart (fun a => isNakTimeoutOther a && lastPoll s)
    (fun u => raiseFailed s .noStartSignal (countPoll u)) s

/-- `START.EXHAUST.ACK`: the last poll brought an ACK (R186). -/
def execStartExhaustAck (s : State) : Out :=
  onRead .awaitStart (fun a => isStim .ack a && lastPoll s)
    (fun u => raiseFailed s .noStartSignal (countPoll u)) s

end Sys2Proof.Machine
end

