-- ==== Sys2Proof/Machine/Terminal.lean ====
section
/-! DEFINITION. Sys2Proof/Machine/Terminal.lean: local cancellation (R215) and the terminal states (R216). -/

namespace Sys2Proof.Machine

/-- A step whose sample of `cancel_req` is 1 in one of the states `p` admits: no external operation is made, and the
session fails (R215, R267). -/
def onCancel (p : Fsm → Bool) (s : State) : Out :=
  if p s.fsm = true ∧ cancelNow s = true then .next (raiseFailed s .cancelledLocally (afterCancel s))
  else .refused .rowDoesNotApply

/-- `CANCEL`: states 0 to 3, `0xx` (R215). -/
def execCancel (s : State) : Out := onCancel (fun f => !(stateCode f).getLsbD 2) s

/-- `CANCEL.HI`: states 4 and 5, `10x` (R215). -/
def execCancelHi (s : State) : Out := onCancel (fun f => (stateCode f).getLsbD 2 && !(stateCode f).getLsbD 1) s

/-- `HALT.DONE`: in DONE no step exists (R216). -/
def execHaltDone (s : State) : Out :=
  if s.fsm = .done then .fault .sessionOver else .refused .rowDoesNotApply

/-- `HALT.FAILED`: in FAILED no step exists (R216). -/
def execHaltFailed (s : State) : Out :=
  if s.fsm = .failed then .fault .sessionOver else .refused .rowDoesNotApply

end Sys2Proof.Machine
end

