-- ==== Sys2Proof/Machine/Wire.lean ====
section
/-! DEFINITION. Sys2Proof/Machine/Wire.lean: the rows of the wire: the five classes of a received byte (R108) and the two
transmitted formats (R101, R102). A received-byte row answers its class, whatever the state; what a class does is given
by the transitions. A transmitted format is one `ChWrite` of its bytes in increasing offset (R70). -/

namespace Sys2Proof.Machine

/-- The classification of byte `b` as class `c` (R108): the class is the answer. -/
def classified (b : Byte) (c : ControlClass) (s : State) : Out :=
  if classify b = c then .next { s with answer := .cls c } else .refused .rowDoesNotApply

/-- One `ChWrite` of `bs`, its result answered (R67). An `IoError` leaves `state` and `reason` as they are (DESIGN CHOICE,
notes/assumptions/24.md). -/
def transmit (bs : List Byte) (s : State) : Out :=
  .next { (writeChannel bs s).2 with answer := writeAnswer (writeChannel bs s).1 }

/-- `RX.ACK`: the byte 0x06 is of class ACK (R108). -/
def execRxAck (s : State) : Out := classified ackByte .ack s

/-- `RX.NAK`: the byte 0x15 is of class NAK (R108). -/
def execRxNak (s : State) : Out := classified nakByte .nak s

/-- `RX.CAN`: the byte 0x18 is of class CAN (R108). -/
def execRxCan (s : State) : Out := classified canByte .can s

/-- `RX.START`: the byte 0x43 is of class START (R108). -/
def execRxStart (s : State) : Out := classified startByte .start s

/-- `RX.OTHER`: any other byte; the row applies only when none of the four exact rows matches (R108, R114). -/
def execRxOther (b : Byte) (s : State) : Out := classified b .other s

/-- `TX.FRAME`: the 133 bytes of a data frame, written as one `ChWrite` (R101, R70). -/
def execTxFrame (seq cmpl : Byte) (payload : List Byte) (hi lo : Byte) (s : State) : Out :=
  transmit (layFrame seq cmpl payload hi lo) s

/-- `TX.EOT`: the byte 0x04, written as one `ChWrite` (R102). -/
def execTxEot (s : State) : Out := transmit [eotByte] s

end Sys2Proof.Machine
end

