-- ==== Sys2Proof/Machine/Dispatch.lean ====
section
/-! DEFINITION. Sys2Proof/Machine/Dispatch.lean: exec, one arm per constructor of Instr. -/

namespace Sys2Proof.Machine

def exec (i : Instr) (s : State) : Host.Outcome State Fault Refusal :=
  match i with
  | .rxAck => Sys2Proof.Machine.execRxAck s
  | .rxNak => Sys2Proof.Machine.execRxNak s
  | .rxCan => Sys2Proof.Machine.execRxCan s
  | .rxStart => Sys2Proof.Machine.execRxStart s
  | .rxOther b => Sys2Proof.Machine.execRxOther b s
  | .txFrame seq cmpl payload hi lo => Sys2Proof.Machine.execTxFrame seq cmpl payload hi lo s
  | .txEot => Sys2Proof.Machine.execTxEot s
  | .crcInit => Sys2Proof.Machine.execCrcInit s
  | .crcRound => Sys2Proof.Machine.execCrcRound s
  | .crcByte b => Sys2Proof.Machine.execCrcByte b s
  | .crcBlock payload => Sys2Proof.Machine.execCrcBlock payload s
  | .frPad c => Sys2Proof.Machine.execFrPad c s
  | .frCmpl seq => Sys2Proof.Machine.execFrCmpl seq s
  | .frFrame seq c => Sys2Proof.Machine.execFrFrame seq c s
  | .srcRead pos count => Sys2Proof.Machine.execSrcRead pos count s
  | .chRead t => Sys2Proof.Machine.execChRead t s
  | .chWrite bs => Sys2Proof.Machine.execChWrite bs s
  | .reset => Sys2Proof.Machine.execReset s
  | .evtEmit e => Sys2Proof.Machine.execEvtEmit e s
  | .cancel => Sys2Proof.Machine.execCancel s
  | .cancelHi => Sys2Proof.Machine.execCancelHi s
  | .haltDone => Sys2Proof.Machine.execHaltDone s
  | .haltFailed => Sys2Proof.Machine.execHaltFailed s
  | .startGo => Sys2Proof.Machine.execStartGo s
  | .startCan => Sys2Proof.Machine.execStartCan s
  | .startIoerr => Sys2Proof.Machine.execStartIoerr s
  | .startPoll => Sys2Proof.Machine.execStartPoll s
  | .startPollAck => Sys2Proof.Machine.execStartPollAck s
  | .startExhaust => Sys2Proof.Machine.execStartExhaust s
  | .startExhaustAck => Sys2Proof.Machine.execStartExhaustAck s
  | .blockSend => Sys2Proof.Machine.execBlockSend s
  | .blockSendEmpty => Sys2Proof.Machine.execBlockSendEmpty s
  | .blockEof => Sys2Proof.Machine.execBlockEof s
  | .blockIoerr => Sys2Proof.Machine.execBlockIoerr s
  | .ackAdv => Sys2Proof.Machine.execAckAdv s
  | .ackCan => Sys2Proof.Machine.execAckCan s
  | .ackRetry => Sys2Proof.Machine.execAckRetry s
  | .ackRetryC => Sys2Proof.Machine.execAckRetryC s
  | .ackExhaust => Sys2Proof.Machine.execAckExhaust s
  | .ackExhaustC => Sys2Proof.Machine.execAckExhaustC s
  | .ackIoerr => Sys2Proof.Machine.execAckIoerr s
  | .retrySend => Sys2Proof.Machine.execRetrySend s
  | .retryIoerr => Sys2Proof.Machine.execRetryIoerr s
  | .eotSend => Sys2Proof.Machine.execEotSend s
  | .eotIoerr => Sys2Proof.Machine.execEotIoerr s
  | .eotackDone => Sys2Proof.Machine.execEotackDone s
  | .eotackCan => Sys2Proof.Machine.execEotackCan s
  | .eotackRetry => Sys2Proof.Machine.execEotackRetry s
  | .eotackRetryC => Sys2Proof.Machine.execEotackRetryC s
  | .eotackExhaust => Sys2Proof.Machine.execEotackExhaust s
  | .eotackExhaustC => Sys2Proof.Machine.execEotackExhaustC s
  | .eotackIoerr => Sys2Proof.Machine.execEotackIoerr s

end Sys2Proof.Machine
end

