-- ==== Sys2Proof/Machine/Step.lean ====
section
/-! DEFINITION. Sys2Proof/Machine/Step.lean: one step: fetch what is next, decode it, check it, execute it (R181). -/

namespace Sys2Proof.Machine

/-- Decode, check and execute one word. -/
def runCall (c : Call) (s : State) : Host.Outcome State Fault Refusal :=
  match decode c with
  | .error e => .refused (.undecodable e)
  | .ok i => if i.wellFormed then exec i s else .refused .illFormed

/-- One step of the machine. -/
def step (s : State) : Host.Outcome State Fault Refusal :=
  match fetch s with
  | .error r => .refused r
  | .ok (c, u) => runCall c u

/-- `s` with a word of the opcode table placed where step fetches its next instruction (notes/assumptions/9.md). -/
def State.withFetchWord (s : State) (nbits w : Nat) : State := placeWord nbits w s

end Sys2Proof.Machine
end

