-- ==== Sys2Proof/Machine/Result.lean ====
section
/-! DEFINITION. Sys2Proof/Machine/Result.lean: what the driver reads of the block (R34, R243): the session's result once the
state is terminal, the outcome class of R269, and the padded total of R30. Reading has no side effect. -/

namespace Sys2Proof.Machine

/-- The one final outcome the driver reports: success with the byte count, or failure with the kind and the last
sequence number; nothing while the session runs (R243). -/
def sessionResult (s : State) : Option SessionResult :=
  match s.fsm with
  | .done => some (.success s.bytesSent)
  | .failed =>
      match s.reason with
      | some r => some (.failure (errorKind r) s.seq)
      | none => none
  | .awaitStart | .sendBlock | .awaitAck | .retry | .sendEot | .awaitEotAck => none

/-- The outcome class of a finished session (R269). -/
def sessionClass (s : State) : Option OutcomeClass :=
  match sessionResult s with
  | some (.success _) => some .success
  | some (.failure _ _) => some (outcomeClass s.reason)
  | none => none

/-- The padded total, which is no register (R30, R243). -/
def paddedTotal (s : State) : Nat := blockLen * s.blockIndex

end Sys2Proof.Machine
end

