-- ==== Sys2Proof/Safety.lean ====
section
/-! DEFINITION. Sys2Proof/Safety.lean: the terms the statements use: which registers a step may write and what it does to
the channel, the source, the events and the setup of the run; the answers of R220; the invariants of a session (R38); and
the number of steps a session still has (R231). -/

namespace Sys2Proof.Machine

/-- The session registers, by name (R21). -/
inductive Reg where
  | fsm
  | seq
  | crc
  | pay
  | chunkLen
  | retryCount
  | pollCount
  | filePos
  | bytesSent
  | blockIndex
  | reason
deriving DecidableEq, Repr

/-- The register has the same value in both states; for the payload buffer, every byte reads the same. -/
def SameReg (s t : State) : Reg → Prop
  | .fsm => t.fsm = s.fsm
  | .seq => t.seq = s.seq
  | .crc => t.crc = s.crc
  | .pay => ∀ a, readByte t.pay a = readByte s.pay a
  | .chunkLen => t.chunkLen = s.chunkLen
  | .retryCount => t.retryCount = s.retryCount
  | .pollCount => t.pollCount = s.pollCount
  | .filePos => t.filePos = s.filePos
  | .bytesSent => t.bytesSent = s.bytesSent
  | .blockIndex => t.blockIndex = s.blockIndex
  | .reason => t.reason = s.reason

/-- Every session register outside the list keeps its value. -/
def OnlyRegs (written : List Reg) (s t : State) : Prop :=
  ∀ r, r ∉ written → SameReg s t r

/-- The parameters, the source, the waiting calls and the last call's answer are the same. -/
def SameSetup (s t : State) : Prop :=
  t.cfg = s.cfg ∧ t.src = s.src ∧ t.calls = s.calls ∧ t.answer = s.answer

/-- One `ChRead` with timeout `n`: its answer is consumed (R66, R74). -/
def ReadOnce (n : Nat) (s t : State) : Prop :=
  t.reads = s.reads ++ [n] ∧ t.rx = s.rx.tail

/-- No `ChRead`. -/
def NoRead (s t : State) : Prop := t.reads = s.reads ∧ t.rx = s.rx

/-- One `ChWrite` of `bs` that returned `Ok`: `TX` has grown by exactly `bs` (R67). -/
def WroteOnce (bs : List Byte) (s t : State) : Prop :=
  t.writes = s.writes ++ [bs] ∧ t.tx = s.tx ++ bs ∧ t.wrAnswers = s.wrAnswers.tail

/-- One `ChWrite` of `bs` that returned `IoError`: some prefix of `bs` has reached `TX`, not said which (R67). -/
def WriteFailed (bs : List Byte) (s t : State) : Prop :=
  t.writes = s.writes ++ [bs] ∧ (∃ n, t.tx = s.tx ++ bs.take n) ∧ t.wrAnswers = s.wrAnswers.tail

/-- No `ChWrite`. -/
def NoWrite (s t : State) : Prop :=
  t.writes = s.writes ∧ t.tx = s.tx ∧ t.wrAnswers = s.wrAnswers

/-- The `EV_RX` records of a read's answer: one for a byte, none otherwise (R245). -/
def rxEvents (seq : Byte) : ReadAnswer → List Event
  | .byte b => [evRx seq b]
  | .timeout | .ioError => []

/-- A NAK, a timeout or an unlisted byte: any byte but ACK, CANCEL and 'C' (R112). -/
def NakTimeoutOther (a : ReadAnswer) : Prop :=
  a = .timeout ∨ ∃ b, a = .byte b ∧ b ≠ 0x06 ∧ b ≠ 0x18 ∧ b ≠ 0x43

/-- What every step of a reading state does besides its register writes: one read, no write, no source read, `EV_RX` for
a byte and then one `EV_TRANS`, registers outside the list kept (R180, R181, R247). -/
def ReadStep (written : List Reg) (dst : Fsm) (o : EventOutcome) (s t : State) : Prop :=
  t.fsm = dst
    ∧ t.events = s.events ++ rxEvents s.seq (readNow s) ++ [evTrans s.seq s.fsm dst o]
    ∧ ReadOnce (stateTimeout s) s t ∧ NoWrite s t ∧ t.srcAnswers = s.srcAnswers
    ∧ t.cancelReq = s.cancelReq.tail ∧ OnlyRegs written s t ∧ SameSetup s t

/-- What every step of a writing state does besides its register writes, when the write of `bs` succeeds: `EV_TX` with
count `n`, then one `EV_TRANS`. -/
def WriteStep (bs : List Byte) (n : Byte) (written : List Reg) (dst : Fsm) (s t : State) : Prop :=
  t.fsm = dst
    ∧ t.events = s.events ++ [evTx s.seq n, evTrans s.seq s.fsm dst .none]
    ∧ WroteOnce bs s t ∧ NoRead s t ∧ t.cancelReq = s.cancelReq.tail ∧ OnlyRegs written s t ∧ SameSetup s t

/-- What a step that fails with reason `r` and read no byte does (R268): `state` and `reason` are written and nothing
else, one `EV_TRANS` with the reason is the only event. -/
def FailStep (r : FailReason) (s t : State) : Prop :=
  t.fsm = .failed ∧ t.reason = some r
    ∧ t.events = s.events ++ [evTrans s.seq s.fsm .failed (.reason r)]
    ∧ t.cancelReq = s.cancelReq.tail ∧ OnlyRegs [.fsm, .reason] s t ∧ SameSetup s t

/-- The number of Blocks of the source (R226). -/
def blocksOf (s : State) : Nat :=
  if s.src.length = 0 then 1 else (s.src.length + 127) / 128

/-- The states in which a Block is current (R38, item 3). -/
abbrev inData (f : Fsm) : Prop := f = .sendBlock ∨ f = .awaitAck ∨ f = .retry

/-- The states in which the current Block has been transmitted and not acknowledged. -/
abbrev inFlight (f : Fsm) : Prop := f = .awaitAck ∨ f = .retry

/-- The states after the last acknowledgement. -/
abbrev inEndPhase (f : Fsm) : Prop := f = .sendEot ∨ f = .awaitEotAck ∨ f = .done

/-- The invariants of a session: the eight items of R38, the canonical form of the payload buffer, an allowed poll
bound, and what the states of the two phases say of the counters. -/
structure SessionInv (s : State) : Prop where
  pollsAllowed : 1 ≤ s.cfg.maxStartPolls
  bytesAreCursor : s.bytesSent = s.filePos
  cursorOfBlock : s.filePos = min (128 * s.blockIndex) s.src.length
  seqOfBlock : inData s.fsm → s.seq.toNat = s.blockIndex % 255 + 1
  retriesBounded : s.retryCount ≤ s.cfg.maxRetries + 1
  retriesLive : isTerminal s.fsm = false → s.retryCount ≤ s.cfg.maxRetries
  pollsBounded : s.pollCount ≤ s.cfg.maxStartPolls
  pollsLive : isTerminal s.fsm = false → s.pollCount < s.cfg.maxStartPolls
  reasonIffFailed : s.reason = none ↔ s.fsm ≠ .failed
  cached : inFlight s.fsm →
    cachedPayload s = (s.src.drop s.filePos).take s.chunkLen.toNat
      ++ List.replicate (128 - s.chunkLen.toNat) s.cfg.padByte
  chunkOfCursor : inFlight s.fsm → s.chunkLen.toNat = min 128 (s.src.length - s.filePos)
  blocksBounded : s.blockIndex ≤ blocksOf s
  unacknowledged : inFlight s.fsm → s.blockIndex < blocksOf s
  allAcknowledged : inEndPhase s.fsm → s.blockIndex = blocksOf s
  atStart : s.fsm = .awaitStart → s.blockIndex = 0 ∧ s.seq = 0
  payCanonical : memoryWf s.pay = true

/-- Steps a SEND_BLOCK step and all that follows may still take with `n` Blocks to go (R231). -/
def stepsFromBlock (maxRetries n : Nat) : Nat :=
  n * (2 + 2 * maxRetries) + 1 + 2 * (maxRetries + 1)

/-- A bound on the number of steps a session still has; in a new session it is the bound of R231. -/
def stepsLeft (s : State) : Nat :=
  match s.fsm with
  | .awaitStart => (s.cfg.maxStartPolls - s.pollCount) + stepsFromBlock s.cfg.maxRetries (blocksOf s)
  | .sendBlock => stepsFromBlock s.cfg.maxRetries (blocksOf s - s.blockIndex)
  | .awaitAck =>
      1 + 2 * (s.cfg.maxRetries - s.retryCount) + stepsFromBlock s.cfg.maxRetries (blocksOf s - s.blockIndex - 1)
  | .retry =>
      2 + 2 * (s.cfg.maxRetries - s.retryCount) + stepsFromBlock s.cfg.maxRetries (blocksOf s - s.blockIndex - 1)
  | .sendEot => 2 + 2 * (s.cfg.maxRetries - s.retryCount)
  | .awaitEotAck => 1 + 2 * (s.cfg.maxRetries - s.retryCount)
  | .done | .failed => 0

/-- The edges of the transition table (R220). -/
def edges : List (Fsm × Fsm) :=
  [(.awaitStart, .sendBlock), (.awaitStart, .awaitStart), (.sendBlock, .awaitAck), (.sendBlock, .sendEot),
   (.awaitAck, .sendBlock), (.awaitAck, .retry), (.retry, .awaitAck), (.sendEot, .awaitEotAck),
   (.awaitEotAck, .done), (.awaitEotAck, .sendEot)]
    ++ [Fsm.awaitStart, .sendBlock, .awaitAck, .retry, .sendEot, .awaitEotAck].map fun f => (f, .failed)

end Sys2Proof.Machine
end

