-- ==== Sys2Proof/Certificates/Slice0/Obligations.lean ====
section
/-! DEFINITION. Sys2Proof/Certificates/Slice0/Obligations.lean: the statements for the provers. OBLIGATIONS.json gives each
its rules. A statement about a transition row says when the row runs, the next state it answers, what it leaves alone, and
that it does not run otherwise. -/

open Sys2Proof Sys2Proof.Machine

/-! ## CRC Engine -/

/-- R141. `CRC.INIT` sets `crc` to 0x0000 whatever it was, and nothing else. -/
def Obligations.CrcInitClearsRegister : Prop :=
  ∀ s, exec .crcInit s = .next { s with crc := 0x0000 }

/-- R142. `CRC.ROUND`: with bit 15 set, shift left and XOR 0x1021, else shift left; nothing else changes. -/
def Obligations.CrcRoundShiftsAndReduces : Prop :=
  ∀ s, (s.crc.getLsbD 15 = true → exec .crcRound s = .next { s with crc := (s.crc <<< 1) ^^^ 0x1021 }) ∧
       (s.crc.getLsbD 15 = false → exec .crcRound s = .next { s with crc := s.crc <<< 1 })

/-- R143. `CRC.BYTE(b)`: the byte goes into bits 15:8, then exactly eight `CRC.ROUND`s are performed; nothing else
changes. -/
def Obligations.CrcByteIsXorThenEightRounds : Prop :=
  ∀ (b : Byte) (s : State), ∃ r : Word16,
    Host.Core.run
      { State := State, Fault := Fault, Refusal := Refusal, step := exec .crcRound, reset := s } 8
      { s with crc := s.crc ^^^ (b.setWidth 16 <<< 8) } = .next { s with crc := r } ∧
    exec (.crcByte b) s = .next { s with crc := r }

/-- R144. `CRC.BLOCK`: `CRC.INIT`, then `CRC.BYTE` of every payload byte in increasing index; the register is the result,
delivered high byte first; nothing else changes. -/
def Obligations.CrcBlockFoldsBytes : Prop :=
  ∀ (p : List Byte) (s : State), p.length = 128 →
    ∃ r : Word16,
      p.foldl (fun (o : Out) b => match o with
        | .next u => exec (.crcByte b) u
        | .fault f => .fault f
        | .refused f => .refused f) (exec .crcInit s) = .next { s with crc := r } ∧
      exec (.crcBlock p) s =
        .next { s with crc := r, answer := .bytes [r.extractLsb' 8 8, r.extractLsb' 0 8] }

/-- R146, law 5. `CRC.BYTE(b)` from any register value is one table look-up: the register shifted by a byte, XOR the
value the byte `crc[15:8] XOR b` gives from 0. -/
def Obligations.CrcByteIsTableLookup : Prop :=
  ∀ (r : Word16) (b : Byte), crcByte r b = (r <<< 8) ^^^ crcByte 0 (r.extractLsb' 8 8 ^^^ b)

/-- R146, law 3. The CRC is linear over XOR for two payloads of equal length. -/
def Obligations.CrcIsLinear : Prop :=
  ∀ p q : List Byte, p.length = q.length →
    computeCrc (List.zipWith (· ^^^ ·) p q) = computeCrc p ^^^ computeCrc q

/-- R146, laws 2 and 4. Leading zero bytes do not change a CRC, and a byte sequence followed by its own CRC, high byte
first, has CRC 0. -/
def Obligations.CrcResidueIsZero : Prop :=
  (∀ (n : Nat) (m : List Byte), computeCrc (List.replicate n 0 ++ m) = computeCrc m) ∧
  (∀ m : List Byte,
    computeCrc (m ++ [(computeCrc m).extractLsb' 8 8, (computeCrc m).extractLsb' 0 8]) = 0)

/-! ## Block Framer -/

/-- R161, R165. `FR.PAD(c)`: the chunk followed by pad bytes, 128 in all; a longer chunk is refused. -/
def Obligations.FrPadFillsTo128 : Prop :=
  ∀ (c : List Byte) (s : State),
    (c.length ≤ 128 → ∃ p : List Byte,
      exec (.frPad c) s = .next { s with answer := .bytes p } ∧
      p = c ++ List.replicate (128 - c.length) s.cfg.padByte ∧ p.length = 128) ∧
    (128 < c.length → exec (.frPad c) s = .refused .chunkTooLong)

/-- R162, R105. `FR.CMPL(s)`: the complement is `255 - s` in natural numbers, which is `s XOR 0xFF`, and the two add up
to 255. -/
def Obligations.FrCmplComplements : Prop :=
  ∀ (q : Byte) (s : State), ∃ c : Byte,
    exec (.frCmpl q) s = .next { s with answer := .byte c } ∧
    c.toNat = 255 - q.toNat ∧ c = q ^^^ 0xFF ∧ q.toNat + c.toNat = 255

/-- R163, R101, R165. `FR.FRAME(q, c)`: 133 bytes, SOH, number, complement, the padded payload, and the CRC of the 128
padded bytes, high byte first; every number 0 to 255 is framed (R166); a chunk longer than 128 bytes is refused.
That `crc` keeps the frame's CRC is DEDUCED, notes/assumptions/11.md. -/
def Obligations.FrFrameLaysOutFrame : Prop :=
  ∀ (q : Byte) (c : List Byte) (s : State),
    (c.length ≤ 128 → ∃ (p f : List Byte) (r : Word16),
      p = c ++ List.replicate (128 - c.length) s.cfg.padByte ∧ r = computeCrc p ∧
      exec (.frFrame q c) s = .next { s with crc := r, answer := .bytes f } ∧
      f.length = 133 ∧ f[0]? = some 0x01 ∧ f[1]? = some q ∧ f[2]? = some (255 - q) ∧
      (f.drop 3).take 128 = p ∧ f[131]? = some (r.extractLsb' 8 8) ∧ f[132]? = some (r.extractLsb' 0 8)) ∧
    (128 < c.length → exec (.frFrame q c) s = .refused .chunkTooLong)

/-- R164, R311. A retry sends the bytes of the first transmission: after `BLOCK.SEND` or `BLOCK.SEND_EMPTY` in a state
whose payload buffer is in canonical form, `RETRY.SEND` in any state that kept the number, the buffer and the pad byte
writes exactly the frame that was written. -/
def Obligations.RetryResendsSameFrame : Prop :=
  ∀ (i : Instr) (s t u : State), (i = .blockSend ∨ i = .blockSendEmpty) → memoryWf s.pay = true →
    exec i s = .next t →
    u.fsm = .retry → u.seq = t.seq → u.pay = t.pay → u.cfg.padByte = t.cfg.padByte → cancelNow u = false →
    (writeChannel (retryFrame u) (afterCancel u)).1 = .ok →
    ∃ v f, exec .retrySend u = .next v ∧ t.writes = s.writes ++ [f] ∧ v.writes = u.writes ++ [f]

/-! ## Wire rows and interface primitives -/

/-- R108, R114. Every byte decodes to exactly the row of its class, and the row answers the class and changes nothing
else: 0x06 ACK, 0x15 NAK, 0x18 CANCEL, 0x43 START, any other OTHER. -/
def Obligations.ReceivedByteHasItsClass : Prop :=
  ∀ s : State,
    (decode (.rxByte 0x06) = .ok .rxAck ∧ exec .rxAck s = .next { s with answer := .cls .ack }) ∧
    (decode (.rxByte 0x15) = .ok .rxNak ∧ exec .rxNak s = .next { s with answer := .cls .nak }) ∧
    (decode (.rxByte 0x18) = .ok .rxCan ∧ exec .rxCan s = .next { s with answer := .cls .can }) ∧
    (decode (.rxByte 0x43) = .ok .rxStart ∧ exec .rxStart s = .next { s with answer := .cls .start }) ∧
    (∀ b : Byte, b ≠ 0x06 → b ≠ 0x15 → b ≠ 0x18 → b ≠ 0x43 →
      decode (.rxByte b) = .ok (.rxOther b) ∧ exec (.rxOther b) s = .next { s with answer := .cls .other })

/-- R101, R102, R70, R67. `TX.FRAME` writes its 133 bytes in increasing offset as one `ChWrite`, `TX.EOT` the one byte
0x04; each answers the result of the write, and no session register and no read changes. That a failed write leaves some
prefix of free length in `TX` is the model's choice, notes/assumptions/6.md; that a direct `TX.FRAME` or `TX.EOT` emits no
event, even where its `ChWrite` returned `Ok` and R245's words give an `EV_TX`, is the model's choice,
notes/assumptions/12.md (DEDUCED).
That an `IoError` answered to a direct call leaves `state` and `reason` as they are, where R262
calls the error fatal, is the model's choice, notes/assumptions/24.md. -/
def Obligations.TransmittedFormatsAreOneWrite : Prop :=
  ∀ (s : State) (q k h l : Byte) (p : List Byte) (i : Instr) (bs : List Byte),
    (i = .txFrame q k p h l ∧ bs = [0x01, q, k] ++ p ++ [h, l]) ∨ (i = .txEot ∧ bs = [0x04]) →
    ∃ t, exec i s = .next t ∧ t.writes = s.writes ++ [bs] ∧
      ((writeChannel bs s).1 = .ok → t.answer = .ok ∧ t.tx = s.tx ++ bs) ∧
      ((writeChannel bs s).1 = .ioError → t.answer = .ioError ∧ ∃ n, t.tx = s.tx ++ bs.take n) ∧
      OnlyRegs [] s t ∧ NoRead s t ∧ t.events = s.events ∧ t.cfg = s.cfg ∧ t.src = s.src

/-- R64. `MemRead(SRC, a, n)` answers either `IoError` or the bytes from `a` up to `min(a + n, SRC_LEN)`, so
`min(n, SRC_LEN - a)` bytes, as the source's environment decides; it moves no register, and a second read of the same
position gives the same bytes.
That an `IoError` answered to a direct call leaves `state` and `reason` as they are, where R262
calls the error fatal, is the model's choice, notes/assumptions/24.md. -/
def Obligations.SourceReadGivesSlice : Prop :=
  ∀ (a n : Nat) (s : State), ∃ t, exec (.srcRead a n) s = .next t ∧
    (t.answer = .ioError ∨
      ∃ c : List Byte, t.answer = .bytes c ∧ c.length = min n (s.src.length - a) ∧
        ∀ i, i < c.length → c.getD i 0 = s.src.getD (a + i) 0) ∧
    (∀ xs, s.srcAnswers = .ok :: xs → t.answer ≠ .ioError ∧ t.srcAnswers = xs) ∧
    (∀ xs, s.srcAnswers = .ioError :: xs → t.answer = .ioError ∧ t.srcAnswers = xs) ∧
    (∀ u v : State, u.src = s.src → exec (.srcRead a n) u = .next v → v.answer ≠ .ioError → t.answer ≠ .ioError →
      v.answer = t.answer) ∧
    OnlyRegs [] s t ∧ NoRead s t ∧ NoWrite s t ∧ t.events = s.events ∧ t.cfg = s.cfg ∧ t.src = s.src

/-- R66, R74. `ChRead(t)` answers exactly one of a byte, a timeout and an error: the answer that stands first in `RX`,
which is consumed, and where none is scheduled any one of the three, a free value (notes/assumptions/5.md). No register
and no output byte changes. That a direct `CH.READ` emits no event, even where it returned a byte and R245's words give an
`EV_RX`, is the model's choice, notes/assumptions/12.md (DEDUCED).
That an `IoError` answered to a direct call leaves `state` and `reason` as they are, where R262
calls the error fatal, is the model's choice, notes/assumptions/24.md. -/
def Obligations.ChannelReadConsumesOldest : Prop :=
  ∀ (n : Nat) (s : State), ∃ t, exec (.chRead n) s = .next t ∧
    t.answer = readAnswer (readChannel n s).1 ∧
    ((∃ b, t.answer = .byte b) ∨ t.answer = .timeout ∨ t.answer = .ioError) ∧
    (∀ b xs, s.rx = .byte b :: xs → t.answer = .byte b ∧ t.rx = xs) ∧
    (∀ xs, s.rx = .timeout :: xs → t.answer = .timeout ∧ t.rx = xs) ∧
    (∀ xs, s.rx = .ioError :: xs → t.answer = .ioError ∧ t.rx = xs) ∧
    ReadOnce n s t ∧ NoWrite s t ∧ OnlyRegs [] s t ∧ t.events = s.events ∧ t.cfg = s.cfg ∧ t.src = s.src

/-- R67. `ChWrite(bs)` answers `Ok`, and then `TX` has grown by exactly `bs`, or `IoError`, where the count was short or
the write failed; one of the two holds of every write. A scheduled answer decides which, and where none is scheduled a free
value does (notes/assumptions/5.md). That after `IoError` some prefix of `bs`, of free length, is all that reached `TX` is
the model's choice, notes/assumptions/6.md. That a direct `CH.WRITE` emits no event, even where it returned `Ok` for a frame
or an EOT and R245's words give an `EV_TX`, is the model's choice, notes/assumptions/12.md (DEDUCED).
That an `IoError` answered to a direct call leaves `state` and `reason` as they are, where R262
calls the error fatal, is the model's choice, notes/assumptions/24.md. -/
def Obligations.ChannelWriteAllOrError : Prop :=
  ∀ (bs : List Byte) (s : State), ∃ t, exec (.chWrite bs) s = .next t ∧
    ((t.answer = .ok ∧ WroteOnce bs s t) ∨ (t.answer = .ioError ∧ WriteFailed bs s t)) ∧
    (t.answer = .ok ↔ (writeChannel bs s).1 = .ok) ∧
    (∀ xs, s.wrAnswers = .full :: xs → t.answer = .ok ∧ WroteOnce bs s t) ∧
    (∀ xs, s.wrAnswers = .short :: xs ∨ s.wrAnswers = .error :: xs → t.answer = .ioError ∧ WriteFailed bs s t) ∧
    NoRead s t ∧ OnlyRegs [] s t ∧ t.events = s.events ∧ t.cfg = s.cfg ∧ t.src = s.src

/-- R241, R39, R301. `RESET`, from every state: AWAIT_START, the counters and `seq` 0, `reason` none; the parameters, the
source, both streams of the channel and the event stream are not touched, and no event is emitted. What `crc` and the
payload buffer hold afterwards is unspecified. From a non-terminal state the effect is the model's choice,
notes/assumptions/13.md. -/
def Obligations.ResetCreatesNewSession : Prop :=
  ∀ s : State, ∃ t, exec .reset s = .next t ∧
    t.fsm = .awaitStart ∧ t.seq = 0 ∧ t.chunkLen = 0 ∧ t.retryCount = 0 ∧ t.pollCount = 0 ∧ t.filePos = 0 ∧
    t.bytesSent = 0 ∧ t.blockIndex = 0 ∧ t.reason = none ∧ t.events = s.events ∧
    t.cfg = s.cfg ∧ t.src = s.src ∧ NoRead s t ∧ NoWrite s t ∧ t.srcAnswers = s.srcAnswers ∧
    t.cancelReq = s.cancelReq

/-- R246. `EVT.EMIT` appends the record to the event stream and changes nothing else. -/
def Obligations.EmitAppendsRecord : Prop :=
  ∀ (e : Event) (s : State), exec (.evtEmit e) s = .next { s with events := s.events ++ [e] }

/-! ## AWAIT_START -/

/-- R182. `START.GO`: in AWAIT_START, the request not set, the read gives 0x43: `seq` is 1, the next state SEND_BLOCK,
whatever `poll_count` is; on any other answer this transition is not taken. -/
def Obligations.StartByteStartsTransfer : Prop :=
  ∀ s : State,
    (s.fsm = .awaitStart → cancelNow s = false → readNow s = .byte 0x43 →
      ∃ t, exec .startGo s = .next t ∧ t.seq = 1 ∧ ReadStep [.fsm, .seq] .sendBlock .none s t) ∧
    (readNow s ≠ .byte 0x43 → exec .startGo s = .refused .rowDoesNotApply)

/-- R183, R196, R209, R263. One CANCEL byte fails the session in each of the three reading states; only `state` and
`reason` are written. -/
def Obligations.CancelByteFailsSession : Prop :=
  ∀ (s : State) (i : Instr),
    (i = .startCan ∧ s.fsm = .awaitStart) ∨ (i = .ackCan ∧ s.fsm = .awaitAck) ∨
      (i = .eotackCan ∧ s.fsm = .awaitEotAck) →
    (cancelNow s = false → readNow s = .byte 0x18 →
      ∃ t, exec i s = .next t ∧ t.reason = some .peerCancelled ∧
        ReadStep [.fsm, .reason] .failed (.reason .peerCancelled) s t) ∧
    (readNow s ≠ .byte 0x18 → exec i s = .refused .rowDoesNotApply)

/-- R184, R199, R212, R262. An I/O error of the read is fatal in each of the three reading states: no poll and no retry is
counted, no `EV_RX` is emitted, only `state` and `reason` are written. -/
def Obligations.ReadErrorFailsSession : Prop :=
  ∀ (s : State) (i : Instr),
    (i = .startIoerr ∧ s.fsm = .awaitStart) ∨ (i = .ackIoerr ∧ s.fsm = .awaitAck) ∨
      (i = .eotackIoerr ∧ s.fsm = .awaitEotAck) →
    (cancelNow s = false → readNow s = .ioError →
      ∃ t, exec i s = .next t ∧ FailStep .ioError s t ∧ ReadOnce (stateTimeout s) s t ∧ NoWrite s t) ∧
    (readNow s ≠ .ioError → exec i s = .refused .rowDoesNotApply)

/-- R185. `START.POLL` (NAK, timeout, unlisted byte) and `START.POLL.ACK`: with polls left, `poll_count` is one more and
the state stays AWAIT_START. -/
def Obligations.BadPollIsCounted : Prop :=
  ∀ (s : State) (i : Instr),
    (i = .startPoll ∧ NakTimeoutOther (readNow s)) ∨ (i = .startPollAck ∧ readNow s = .byte 0x06) →
    s.fsm = .awaitStart → cancelNow s = false →
    (s.pollCount + 1 < s.cfg.maxStartPolls →
      ∃ t, exec i s = .next t ∧ t.pollCount = s.pollCount + 1 ∧
        ReadStep [.pollCount] .awaitStart .none s t) ∧
    (s.cfg.maxStartPolls ≤ s.pollCount + 1 → exec i s = .refused .rowDoesNotApply)

/-- R186, R264. `START.EXHAUST` and `START.EXHAUST.ACK`: the last allowed poll was unsuccessful: `poll_count` is one more
and the session fails with `no_start_signal`. -/
def Obligations.LastBadPollFailsSession : Prop :=
  ∀ (s : State) (i : Instr),
    (i = .startExhaust ∧ NakTimeoutOther (readNow s)) ∨ (i = .startExhaustAck ∧ readNow s = .byte 0x06) →
    s.fsm = .awaitStart → cancelNow s = false →
    (s.cfg.maxStartPolls ≤ s.pollCount + 1 →
      ∃ t, exec i s = .next t ∧ t.pollCount = s.pollCount + 1 ∧ t.reason = some .noStartSignal ∧
        ReadStep [.fsm, .pollCount, .reason] .failed (.reason .noStartSignal) s t) ∧
    (s.pollCount + 1 < s.cfg.maxStartPolls → exec i s = .refused .rowDoesNotApply)

/-! ## SEND_BLOCK -/

/-- R190, R191. `BLOCK.SEND` for a chunk of 1 to 128 bytes, `BLOCK.SEND_EMPTY` for an empty chunk on the very first visit:
when the frame's write succeeds, the frame of `seq` and the padded chunk is written, the buffer holds the padded chunk,
`chunk_len` its unpadded length, `retry_count` is 0, the next state AWAIT_ACK; `seq`, `file_pos`, `bytes_sent` and
`block_index` are not written. The engine's register `crc`, in which the frame's CRC was computed, is the only other
register that may change. -/
def Obligations.SendBlockTransmitsChunk : Prop :=
  ∀ (s : State) (i : Instr) (c : List Byte),
    (i = .blockSend ∧ c ≠ []) ∨ (i = .blockSendEmpty ∧ c = [] ∧ s.blockIndex = 0) →
    s.fsm = .sendBlock → cancelNow s = false → sourceNow s = .chunk c → memoryWf s.pay = true →
    (frameWriteNow c s = .ok →
      ∃ t, exec i s = .next t ∧
        cachedPayload t = c ++ List.replicate (128 - c.length) s.cfg.padByte ∧
        t.chunkLen.toNat = c.length ∧ t.retryCount = 0 ∧
        WriteStep (frameBytes s.cfg.padByte s.seq (c ++ List.replicate (128 - c.length) s.cfg.padByte)) 133
          [.fsm, .pay, .chunkLen, .retryCount, .crc] .awaitAck s t) ∧
    (frameWriteNow c s = .ioError → exec i s = .refused .rowDoesNotApply)

/-- R192. `BLOCK.EOF`: the source is exhausted and this is not the first chunk: no channel operation, `retry_count` 0, the
next state SEND_EOT. -/
def Obligations.ExhaustedSourceTurnsToEot : Prop :=
  ∀ s : State, s.fsm = .sendBlock → cancelNow s = false →
    (sourceNow s = .chunk [] → s.blockIndex ≠ 0 →
      ∃ t, exec .blockEof s = .next t ∧ t.fsm = .sendEot ∧ t.retryCount = 0 ∧
        t.events = s.events ++ [evTrans s.seq .sendBlock .sendEot .none] ∧
        NoRead s t ∧ NoWrite s t ∧ OnlyRegs [.fsm, .retryCount] s t ∧ SameSetup s t) ∧
    (s.blockIndex = 0 → exec .blockEof s = .refused .rowDoesNotApply)

/-- R193. `BLOCK.IOERR`: a failing source read, after which nothing is written to the channel, or a failing write of the
frame: the session fails with `io_error`; the buffer, `chunk_len` and `retry_count` are not written. -/
def Obligations.SendBlockErrorFailsSession : Prop :=
  ∀ s : State, s.fsm = .sendBlock → cancelNow s = false →
    (sourceNow s = .ioError →
      ∃ t, exec .blockIoerr s = .next t ∧ FailStep .ioError s t ∧ NoRead s t ∧ NoWrite s t) ∧
    (∀ c, sourceNow s = .chunk c → (c ≠ [] ∨ s.blockIndex = 0) → frameWriteNow c s = .ioError →
      ∃ t, exec .blockIoerr s = .next t ∧ FailStep .ioError s t ∧ NoRead s t ∧ WriteFailed (frameOf c s) s t) ∧
    (∀ c, sourceNow s = .chunk c → frameWriteNow c s = .ok → exec .blockIoerr s = .refused .rowDoesNotApply)

/-! ## AWAIT_ACK and RETRY -/

/-- R195, R200. `ACK.ADV`: in AWAIT_ACK, the read gives 0x06: the cursor and the byte count advance by `chunk_len`, the
block index by one, the number by `next_seq` (after 255 comes 1, never 0), whatever `retry_count` is, which is kept. -/
def Obligations.AckAdvancesSession : Prop :=
  ∀ s : State,
    (s.fsm = .awaitAck → cancelNow s = false → readNow s = .byte 0x06 →
      ∃ t, exec .ackAdv s = .next t ∧
        t.filePos = s.filePos + s.chunkLen.toNat ∧ t.bytesSent = s.bytesSent + s.chunkLen.toNat ∧
        t.blockIndex = s.blockIndex + 1 ∧ t.seq = (if s.seq = 255 then 1 else s.seq + 1) ∧
        ReadStep [.fsm, .filePos, .bytesSent, .blockIndex, .seq] .sendBlock .none s t) ∧
    (readNow s ≠ .byte 0x06 → exec .ackAdv s = .refused .rowDoesNotApply)

/-- R197. `ACK.RETRY` (NAK, timeout, unlisted byte) and `ACK.RETRY.C`: within the bound, `retry_count` is one more and the
next state RETRY. -/
def Obligations.BadAckIsRetried : Prop :=
  ∀ (s : State) (i : Instr),
    (i = .ackRetry ∧ NakTimeoutOther (readNow s)) ∨ (i = .ackRetryC ∧ readNow s = .byte 0x43) →
    s.fsm = .awaitAck → cancelNow s = false →
    (s.retryCount + 1 ≤ s.cfg.maxRetries →
      ∃ t, exec i s = .next t ∧ t.retryCount = s.retryCount + 1 ∧
        ReadStep [.fsm, .retryCount] .retry .none s t) ∧
    (s.cfg.maxRetries < s.retryCount + 1 → exec i s = .refused .rowDoesNotApply)

/-- R198, R265. `ACK.EXHAUST` and `ACK.EXHAUST.C`: the counter exceeds the bound: `retry_count` is one more and the session
fails with `max_retries_exceeded`; `seq` is left at the unacknowledged Block's number. -/
def Obligations.ExhaustedRetriesFailSession : Prop :=
  ∀ (s : State) (i : Instr),
    (i = .ackExhaust ∧ NakTimeoutOther (readNow s)) ∨ (i = .ackExhaustC ∧ readNow s = .byte 0x43) →
    s.fsm = .awaitAck → cancelNow s = false →
    (s.cfg.maxRetries < s.retryCount + 1 →
      ∃ t, exec i s = .next t ∧ t.retryCount = s.retryCount + 1 ∧ t.reason = some .maxRetriesExceeded ∧
        ReadStep [.fsm, .retryCount, .reason] .failed (.reason .maxRetriesExceeded) s t) ∧
    (s.retryCount + 1 ≤ s.cfg.maxRetries → exec i s = .refused .rowDoesNotApply)

/-- R202. `RETRY.SEND`: the frame of `seq` and the cached payload is written again; `retry_count` is not reset, the source
is not read, the next state AWAIT_ACK. The engine's register `crc`, in which the frame's CRC was computed, is the only
other register that may change. -/
def Obligations.RetryWritesCachedBlock : Prop :=
  ∀ s : State, s.fsm = .retry → cancelNow s = false →
    ((writeChannel (retryFrame s) (afterCancel s)).1 = .ok →
      ∃ t, exec .retrySend s = .next t ∧ t.srcAnswers = s.srcAnswers ∧
        WriteStep (frameBytes s.cfg.padByte s.seq (cachedPayload s)) 133 [.fsm, .crc] .awaitAck s t) ∧
    ((writeChannel (retryFrame s) (afterCancel s)).1 = .ioError →
      exec .retrySend s = .refused .rowDoesNotApply)

/-- R203, R206, R262. A failing write is fatal in RETRY and in SEND_EOT: only `state` and `reason` are written and no
`EV_TX` is emitted. -/
def Obligations.WriteErrorFailsSession : Prop :=
  ∀ (s : State) (i : Instr) (bs : List Byte),
    (i = .retryIoerr ∧ s.fsm = .retry ∧ bs = retryFrame s) ∨ (i = .eotIoerr ∧ s.fsm = .sendEot ∧ bs = [0x04]) →
    cancelNow s = false →
    ((writeChannel bs (afterCancel s)).1 = .ioError →
      ∃ t, exec i s = .next t ∧ FailStep .ioError s t ∧ NoRead s t ∧ WriteFailed bs s t) ∧
    ((writeChannel bs (afterCancel s)).1 = .ok → exec i s = .refused .rowDoesNotApply)

/-! ## SEND_EOT and AWAIT_EOT_ACK -/

/-- R205, R102. `EOT.SEND`: the one byte 0x04 is written, `retry_count` is unchanged, the next state AWAIT_EOT_ACK. -/
def Obligations.EotIsSent : Prop :=
  ∀ s : State, s.fsm = .sendEot → cancelNow s = false →
    ((writeChannel [0x04] (afterCancel s)).1 = .ok →
      ∃ t, exec .eotSend s = .next t ∧ t.srcAnswers = s.srcAnswers ∧
        WriteStep [0x04] 1 [.fsm] .awaitEotAck s t) ∧
    ((writeChannel [0x04] (afterCancel s)).1 = .ioError → exec .eotSend s = .refused .rowDoesNotApply)

/-- R208. `EOTACK.DONE`: in AWAIT_EOT_ACK, the read gives 0x06: the next state is DONE and only `state` is written. -/
def Obligations.EotAckEndsSession : Prop :=
  ∀ s : State,
    (s.fsm = .awaitEotAck → cancelNow s = false → readNow s = .byte 0x06 →
      ∃ t, exec .eotackDone s = .next t ∧ ReadStep [.fsm] .done .done s t) ∧
    (readNow s ≠ .byte 0x06 → exec .eotackDone s = .refused .rowDoesNotApply)

/-- R210. `EOTACK.RETRY` (NAK, timeout, unlisted byte) and `EOTACK.RETRY.C`: within the bound, `retry_count` is one more
and the next state SEND_EOT. -/
def Obligations.BadEotAckIsRetried : Prop :=
  ∀ (s : State) (i : Instr),
    (i = .eotackRetry ∧ NakTimeoutOther (readNow s)) ∨ (i = .eotackRetryC ∧ readNow s = .byte 0x43) →
    s.fsm = .awaitEotAck → cancelNow s = false →
    (s.retryCount + 1 ≤ s.cfg.maxRetries →
      ∃ t, exec i s = .next t ∧ t.retryCount = s.retryCount + 1 ∧
        ReadStep [.fsm, .retryCount] .sendEot .none s t) ∧
    (s.cfg.maxRetries < s.retryCount + 1 → exec i s = .refused .rowDoesNotApply)

/-- R211, R266. `EOTACK.EXHAUST` and `EOTACK.EXHAUST.C`: the counter exceeds the bound: `retry_count` is one more and the
session fails with `eot_not_acked`. -/
def Obligations.ExhaustedEotFailsSession : Prop :=
  ∀ (s : State) (i : Instr),
    (i = .eotackExhaust ∧ NakTimeoutOther (readNow s)) ∨ (i = .eotackExhaustC ∧ readNow s = .byte 0x43) →
    s.fsm = .awaitEotAck → cancelNow s = false →
    (s.cfg.maxRetries < s.retryCount + 1 →
      ∃ t, exec i s = .next t ∧ t.retryCount = s.retryCount + 1 ∧ t.reason = some .eotNotAcked ∧
        ReadStep [.fsm, .retryCount, .reason] .failed (.reason .eotNotAcked) s t) ∧
    (s.retryCount + 1 ≤ s.cfg.maxRetries → exec i s = .refused .rowDoesNotApply)

/-! ## Cancellation, failure and the terminal states -/

/-- R215, R267. `CANCEL` in states 0 to 3, `CANCEL.HI` in states 4 and 5: the request sampled at the top of the step fails
the session with `cancelled_locally`; no source read, no channel read and no channel write is made. -/
def Obligations.CancelRequestFailsSession : Prop :=
  ∀ (s : State) (i : Instr),
    (i = .cancel ∧ (s.fsm = .awaitStart ∨ s.fsm = .sendBlock ∨ s.fsm = .awaitAck ∨ s.fsm = .retry)) ∨
      (i = .cancelHi ∧ (s.fsm = .sendEot ∨ s.fsm = .awaitEotAck)) →
    (cancelNow s = true →
      ∃ t, exec i s = .next t ∧ FailStep .cancelledLocally s t ∧ NoRead s t ∧ NoWrite s t ∧
        t.srcAnswers = s.srcAnswers) ∧
    (cancelNow s = false → exec i s = .refused .rowDoesNotApply)

/-- R216. In DONE and in FAILED no step exists, whatever `cancel_req` and the channel do: a step with no call waiting
stops. -/
def Obligations.TerminalStatesHaveNoStep : Prop :=
  (∀ s : State, s.fsm = .done → exec .haltDone s = .fault .sessionOver) ∧
  (∀ s : State, s.fsm = .failed → exec .haltFailed s = .fault .sessionOver) ∧
  (∀ s : State, (s.fsm = .done ∨ s.fsm = .failed) → s.calls = [] → legalConfig s = true →
    step s = .fault .sessionOver)

/-- R273. Priority in one step: a set request fails the session before any operation; otherwise an I/O error is reported
before the answer is classified; otherwise a CANCEL byte is reported although the bound would also be exceeded. -/
def Obligations.PriorityWithinStep : Prop :=
  ∀ s : State, isTerminal s.fsm = false → s.calls = [] → legalConfig s = true →
    (cancelNow s = true → ∃ t, step s = .next t ∧ t.reason = some .cancelledLocally ∧ NoRead s t ∧ NoWrite s t) ∧
    (cancelNow s = false → s.fsm = .awaitStart ∨ s.fsm = .awaitAck ∨ s.fsm = .awaitEotAck →
      (readNow s = .ioError → ∃ t, step s = .next t ∧ t.reason = some .ioError) ∧
      (readNow s = .byte 0x18 → ∃ t, step s = .next t ∧ t.reason = some .peerCancelled ∧
        t.retryCount = s.retryCount ∧ t.pollCount = s.pollCount)) ∧
    (cancelNow s = false → s.fsm = .sendBlock → sourceNow s = .ioError →
      ∃ t, step s = .next t ∧ t.reason = some .ioError ∧ NoWrite s t)

/-! ## The machine -/

/-- R181, R113. A step runs the instruction it fetches: the oldest waiting call, which is taken from the list, or else, in
a legal configuration, the transition whose row matches the key of the state and its inputs; a well-formed instruction is
executed, on the state as it stands. -/
def Obligations.StepRunsFetchedInstruction : Prop :=
  (∀ (s : State) (c : Call) (cs : List Call) (i : Instr),
    s.calls = c :: cs → decode c = .ok i → i.wellFormed = true → step s = exec i { s with calls := cs }) ∧
  (∀ (s : State) (i : Instr),
    s.calls = [] → legalConfig s = true → decode (.fsmKey (transitionKey s)) = .ok i → i.wellFormed = true →
    step s = exec i s)

/-- R108, R102, R114, R113. Words written out from the spec's encodings decode to the instructions they stand for. -/
def Obligations.SpecWordsDecode : Prop :=
  decode (.rxByte 0b00000110#8) = .ok .rxAck ∧ decode (.rxByte 0b01000011#8) = .ok .rxStart ∧
  decode (.txByte 0b00000100#8) = .ok .txEot ∧ decode (.op 0b0000#4 noArgs) = .ok .crcInit ∧
  decode (.op 0b1010#4 noArgs) = .ok .reset ∧
  decode (.fsmKey 0b0000001100#10) = .ok .startGo ∧ decode (.fsmKey 0b0000010101#10) = .ok .startExhaust ∧
  decode (.fsmKey 0b0000100011#10) = .ok .blockSendEmpty ∧ decode (.fsmKey 0b0001000100#10) = .ok .ackAdv ∧
  decode (.fsmKey 0b0001100000#10) = .ok .retrySend ∧ decode (.fsmKey 0b0010000000#10) = .ok .eotSend ∧
  decode (.fsmKey 0b0010100100#10) = .ok .eotackDone ∧ decode (.fsmKey 0b1001000000#10) = .ok .cancel ∧
  decode (.fsmKey 0b1010100000#10) = .ok .cancelHi ∧ decode (.fsmKey 0b0101100000#10) = .ok .retryIoerr

/-- Decoding the encoding of a well-formed instruction gives it back, for every instruction and every value of its
operands. -/
def Obligations.DecodeEncodeRoundTrip : Prop :=
  ∀ i : Instr, i.wellFormed = true → decode (encode i) = .ok i

/-- R113. No key matches two rows. -/
def Obligations.KeyMatchesOneRow : Prop :=
  ∀ (k : BitVec 10) (r₁ r₂ : KeyRow), r₁ ∈ keyRows → r₂ ∈ keyRows →
    r₁.applies k = true → r₂.applies k = true → r₁ = r₂

/-- R113, R220. In a non-terminal state and a legal configuration a step with no call waiting always answers a next state:
every key that can arise matches a row, and the row it matches runs. -/
def Obligations.EveryLiveStateHasStep : Prop :=
  ∀ s : State, isTerminal s.fsm = false → s.calls = [] → legalConfig s = true → ∃ t, step s = .next t

/-- R113. The meanings agree with the key table: a transition row answers a next state only in a state whose key selects
it. -/
def Obligations.RowRunsOnlyWhenSelected : Prop :=
  ∀ (i : Instr) (s t : State) (k : BitVec 10),
    encode i = .fsmKey k → exec i s = .next t → decode (.fsmKey (transitionKey s)) = .ok i

/-- R220, R22, R247. The transition table: a step with no call waiting leads along one of its edges, FAILED carries a
reason, and its events are at most one `EV_TX` or `EV_RX` and then exactly one `EV_TRANS` of that edge. -/
def Obligations.StepFollowsTransitionTable : Prop :=
  ∀ s t : State, s.calls = [] → step s = .next t →
    (s.fsm, t.fsm) ∈ edges ∧ (t.fsm = .failed → t.reason ≠ none) ∧
    ∃ (es : List Event) (o : EventOutcome),
      t.events = s.events ++ es ++ [evTrans s.seq s.fsm t.fsm o] ∧ es.length ≤ 1 ∧ ∀ e ∈ es, e.kind ≠ .trans

/-- R77, R78, R83, R74. A step with no call waiting makes at most one channel operation, a read in a reading state and a
write in a writing state: at most one read's answer is consumed and nothing else leaves `RX`, `TX` only grows, and no step
both reads and writes. -/
def Obligations.StepMakesOneChannelOperation : Prop :=
  ∀ s t : State, s.calls = [] → step s = .next t →
    (NoRead s t ∧ NoWrite s t) ∨
    (ReadOnce (stateTimeout s) s t ∧ NoWrite s t ∧
      (s.fsm = .awaitStart ∨ s.fsm = .awaitAck ∨ s.fsm = .awaitEotAck)) ∨
    (NoRead s t ∧ (∃ bs, WroteOnce bs s t ∨ WriteFailed bs s t) ∧
      (s.fsm = .sendBlock ∨ s.fsm = .retry ∨ s.fsm = .sendEot))

/-- R38. The session invariants are kept by every step of the machine, whether it is a transition or a directly invoked
operation. -/
def Obligations.SessionInvariantKept : Prop :=
  ∀ s t : State, SessionInv s → step s = .next t → SessionInv t

/-- R38, R39. The session invariants hold after reset, for every value of the registers the spec leaves open and every
parameter setting that allows a poll. -/
def Obligations.SessionInvariantAtReset : Prop :=
  SessionInv State.reset ∧
  ∀ (c : Params) (src : List Byte) (r : Word16) (m : List Host.Cell), 1 ≤ c.maxStartPolls → memoryWf m = true →
    SessionInv { State.reset with cfg := c, src := src, crc := r, pay := m }

/-- R39, R301. The register values the spec gives for reset. -/
def Obligations.ResetRegisterValues : Prop :=
  State.reset.fsm = .awaitStart ∧ State.reset.seq = 0 ∧ State.reset.chunkLen = 0 ∧ State.reset.retryCount = 0 ∧
  State.reset.pollCount = 0 ∧ State.reset.filePos = 0 ∧ State.reset.bytesSent = 0 ∧ State.reset.blockIndex = 0 ∧
  State.reset.reason = none

/-- R231, R16. Termination: from every state that meets the invariants, with a legal configuration and no call waiting,
the session ends within `stepsLeft`, whatever the environment answers: one step more finds no step. In a new session that
is the bound of R231. The measure `stepsLeft` for a session under way is the model's own; R231 is the spec's inference from
R220 and R38 and speaks of a whole run. -/
def Obligations.EverySessionEnds : Prop :=
  (∀ s : State, SessionInv s → s.calls = [] → legalConfig s = true →
    Host.Core.run Sys2Proof.core (stepsLeft s + 1) s = .fault .sessionOver) ∧
  (∀ s : State, s.fsm = .awaitStart → s.pollCount = 0 →
    stepsLeft s = s.cfg.maxStartPolls + blocksOf s * (2 + 2 * s.cfg.maxRetries) + 1 + 2 * (s.cfg.maxRetries + 1))

/-- R249. The event stream has no influence: whatever records it holds, a step does the same and appends the same
records. -/
def Obligations.EventStreamHasNoInfluence : Prop :=
  ∀ s t : State, step s = .next t →
    ∃ es, t.events = s.events ++ es ∧
      ∀ old : List Event, step { s with events := old } = .next { t with events := old ++ es }

/-- R40, R302, R63, R65, R246. No instruction changes the parameters or the source, takes back a byte of `TX`, or takes
back an event. -/
def Obligations.SetupFixedOutputsGrow : Prop :=
  ∀ (i : Instr) (s t : State), exec i s = .next t →
    t.cfg = s.cfg ∧ t.src = s.src ∧ (∃ bs, t.tx = s.tx ++ bs) ∧ (∃ es, t.events = s.events ++ es) ∧
    (∃ ws, t.writes = s.writes ++ ws) ∧ (∃ rs, t.reads = s.reads ++ rs)

/-- R32, R275. From FAILED only `RESET` leads out and clears `reason`: any other instruction that answers a next state
keeps the state and the reason, and every register of the result. -/
def Obligations.OnlyResetLeavesFailed : Prop :=
  ∀ (i : Instr) (s t : State), (s.fsm = .failed ∨ s.fsm = .done) → i ≠ .reset → exec i s = .next t →
    t.fsm = s.fsm ∧ t.reason = s.reason ∧ t.seq = s.seq ∧ t.bytesSent = s.bytesSent ∧
    t.blockIndex = s.blockIndex ∧ t.retryCount = s.retryCount

/-- R62. Bytes written to the payload buffer are read back, every other index keeps its byte, the canonical form is kept,
and an index beyond 127 is refused. -/
def Obligations.PayloadBufferReadsWhatWasWritten : Prop :=
  ∀ (s : State) (a : Nat) (v : List Byte), memoryWf s.pay = true →
    (a + v.length ≤ 128 →
      ∃ t, writePay a v s = some t ∧ readPay a v.length t = some v ∧ memoryWf t.pay = true ∧
        (∀ x, x < a ∨ a + v.length ≤ x → readByte t.pay x = readByte s.pay x) ∧
        t = { s with pay := t.pay }) ∧
    (128 < a + v.length → writePay a v s = none ∧ readPay a v.length s = none)

/-- R200, R225. `next_seq` gives 1 after 255 and one more otherwise, which is `s + 1` in 8 bits with 0 made 1; it never
gives 0 and runs through a cycle of length 255: from every number but 0, 255 advances lead back to it, and fewer do
not. -/
def Obligations.SequenceCycleSkipsZero : Prop :=
  (∀ q : Byte, nextSeq q = (if q = 255 then 1 else q + 1) ∧ nextSeq q = (if q + 1 = 0 then 1 else q + 1)) ∧
  (∀ q : Byte, 1 ≤ (nextSeq q).toNat ∧ (nextSeq q).toNat ≤ 255) ∧
  (∀ q : Byte, q ≠ 0 → nextSeq^[255] q = q) ∧
  (∀ (q : Byte) (n : Nat), q ≠ 0 → 0 < n → n < 255 → nextSeq^[n] q ≠ q)

/-- R229, R243. In DONE every source byte is counted and every Block acknowledged, and the driver reports success with
that count. -/
def Obligations.DoneReportsWholeSource : Prop :=
  ∀ s : State, SessionInv s → s.fsm = .done →
    s.bytesSent = s.src.length ∧ s.blockIndex = blocksOf s ∧
    sessionResult s = some (.success s.src.length)

/-- R243, R269. A failed session reports the kind of its reason and the last sequence number, and falls into the outcome
class of its reason. -/
def Obligations.FailureReportsKindAndSeq : Prop :=
  ∀ (s : State) (r : FailReason), s.fsm = .failed → s.reason = some r →
    ∃ k, sessionResult s = some (.failure k s.seq) ∧
      (r = .noStartSignal ∨ r = .maxRetriesExceeded ∨ r = .eotNotAcked →
        k = .retriesExhausted ∧ sessionClass s = some .timedOut) ∧
      (r = .peerCancelled → k = .peerCancelled ∧ sessionClass s = some .aborted) ∧
      (r = .ioError → k = .ioError ∧ sessionClass s = some .aborted) ∧
      (r = .cancelledLocally → k = .localCancellation ∧ sessionClass s = some .aborted)

/-- R245, R248. The fields of the three event records, and their codes: kind 1, 2, 3, `from` and `to` code 0 in `EV_TX`
and `EV_RX`, a control class 9 to 13, a reason 3 to 8, `none` 0, `ok` 1, `done` 2. -/
def Obligations.EventRecordFields : Prop :=
  (∀ q n : Byte, kindCode (evTx q n).kind = 1 ∧ (evTx q n).seq = q ∧ (evTx q n).byteCount = n ∧
    outcomeCode (evTx q n).outcome = 1 ∧ stateCode (evTx q n).fromState = 0 ∧ stateCode (evTx q n).toState = 0 ∧
    (evTx q n).value = 0) ∧
  (∀ q b : Byte, kindCode (evRx q b).kind = 2 ∧ (evRx q b).seq = q ∧ (evRx q b).byteCount = 1 ∧
    outcomeCode (evRx q b).outcome =
      (if b = 0x06 then 9 else if b = 0x15 then 10 else if b = 0x18 then 11 else if b = 0x43 then 12 else 13) ∧
    stateCode (evRx q b).fromState = 0 ∧ stateCode (evRx q b).toState = 0 ∧ (evRx q b).value = b) ∧
  (∀ (q : Byte) (f g : Fsm) (o : EventOutcome), kindCode (evTrans q f g o).kind = 3 ∧ (evTrans q f g o).seq = q ∧
    (evTrans q f g o).byteCount = 0 ∧ (evTrans q f g o).outcome = o ∧ (evTrans q f g o).fromState = f ∧
    (evTrans q f g o).toState = g ∧ (evTrans q f g o).value = 0) ∧
  (outcomeCode .none = 0 ∧ outcomeCode .done = 2) ∧
  (∀ r : FailReason, outcomeCode (.reason r) = (reasonCode (some r)).setWidth 4 + 2)
end

