-- ==== Sys2Proof/Laws/Crc.lean ====
section
/-! SUPPORT. Sys2Proof/Laws/Crc.lean: a CRC over a sequence is the fold of its byte step; the round and the byte step of the
CRC Engine distribute over XOR. -/

namespace Sys2Proof.Machine

@[simp] theorem withNumeral_eq (r : Word16) (k : Word16 → Word16) : withNumeral r k = k r := by
  unfold withNumeral
  split
  · rename_i h; exact congrArg k (BitVec.eq_of_toNat_eq (h.symm ▸ rfl))
  · rename_i n h
    refine congrArg k (BitVec.eq_of_toNat_eq ?_)
    rw [BitVec.toNat_ofNat, ← Nat.succ_eq_add_one, ← h]
    exact Nat.mod_eq_of_lt r.isLt

@[simp] theorem crcOver_nil (r : Word16) : crcOver r [] = r := rfl

@[simp] theorem crcOver_cons (r : Word16) (b : Byte) (bs : List Byte) :
    crcOver r (b :: bs) = crcOver (crcByte r b) bs := withNumeral_eq _ _

theorem crcOver_eq_foldl (r : Word16) (bs : List Byte) : crcOver r bs = bs.foldl crcByte r := by
  induction bs generalizing r with
  | nil => rfl
  | cons b bs ih => simp [ih]

theorem crcOver_append (r : Word16) (bs cs : List Byte) : crcOver r (bs ++ cs) = crcOver (crcOver r bs) cs := by
  simp [crcOver_eq_foldl]

theorem crcRound_xor (a b : Word16) : crcRound (a ^^^ b) = crcRound a ^^^ crcRound b := by
  unfold crcRound
  rw [BitVec.getLsbD_xor]
  cases a.getLsbD 15 <;> cases b.getLsbD 15 <;> simp [BitVec.shiftLeft_xor_distrib, ← BitVec.xor_assoc] <;>
    first
    | ac_rfl
    | (ext i; simp; cases crcPoly[i] <;> cases (decide (i = 0)) <;> simp)

theorem crcRounds_xor (n : Nat) (a b : Word16) : crcRounds n (a ^^^ b) = crcRounds n a ^^^ crcRounds n b := by
  induction n generalizing a b with
  | zero => rfl
  | succ n ih => simp [crcRounds, crcRound_xor, ih]

theorem crcByte_xor (a b : Word16) (x y : Byte) : crcByte (a ^^^ b) (x ^^^ y) = crcByte a x ^^^ crcByte b y := by
  unfold crcByte
  rw [← crcRounds_xor, BitVec.setWidth_xor, BitVec.shiftLeft_xor_distrib]
  congr 1
  ac_rfl

end Sys2Proof.Machine
end

