-- ==== Sys2Proof/Laws/Exec.lean ====
section
/-! SUPPORT. Sys2Proof/Laws/Exec.lean: exec at each row of the opcode table is that row's meaning. -/

namespace Sys2Proof.Machine

theorem exec_rxAck (s : State) : exec .rxAck s = execRxAck s := rfl
theorem exec_rxNak (s : State) : exec .rxNak s = execRxNak s := rfl
theorem exec_rxCan (s : State) : exec .rxCan s = execRxCan s := rfl
theorem exec_rxStart (s : State) : exec .rxStart s = execRxStart s := rfl
theorem exec_rxOther (b : Byte) (s : State) : exec (.rxOther b) s = execRxOther b s := rfl
theorem exec_txFrame (seq cmpl : Byte) (payload : List Byte) (hi lo : Byte) (s : State) : exec (.txFrame seq cmpl payload hi lo) s = execTxFrame seq cmpl payload hi lo s := rfl
theorem exec_txEot (s : State) : exec .txEot s = execTxEot s := rfl
theorem exec_crcInit (s : State) : exec .crcInit s = execCrcInit s := rfl
theorem exec_crcRound (s : State) : exec .crcRound s = execCrcRound s := rfl
theorem exec_crcByte (b : Byte) (s : State) : exec (.crcByte b) s = execCrcByte b s := rfl
theorem exec_crcBlock (payload : List Byte) (s : State) : exec (.crcBlock payload) s = execCrcBlock payload s := rfl
theorem exec_frPad (c : List Byte) (s : State) : exec (.frPad c) s = execFrPad c s := rfl
theorem exec_frCmpl (seq : Byte) (s : State) : exec (.frCmpl seq) s = execFrCmpl seq s := rfl
theorem exec_frFrame (seq : Byte) (c : List Byte) (s : State) : exec (.frFrame seq c) s = execFrFrame seq c s := rfl
theorem exec_srcRead (pos count : Nat) (s : State) : exec (.srcRead pos count) s = execSrcRead pos count s := rfl
theorem exec_chRead (t : Nat) (s : State) : exec (.chRead t) s = execChRead t s := rfl
theorem exec_chWrite (bs : List Byte) (s : State) : exec (.chWrite bs) s = execChWrite bs s := rfl
theorem exec_reset (s : State) : exec .reset s = execReset s := rfl
theorem exec_evtEmit (e : Event) (s : State) : exec (.evtEmit e) s = execEvtEmit e s := rfl
theorem exec_cancel (s : State) : exec .cancel s = execCancel s := rfl
theorem exec_cancelHi (s : State) : exec .cancelHi s = execCancelHi s := rfl
theorem exec_haltDone (s : State) : exec .haltDone s = execHaltDone s := rfl
theorem exec_haltFailed (s : State) : exec .haltFailed s = execHaltFailed s := rfl
theorem exec_startGo (s : State) : exec .startGo s = execStartGo s := rfl
theorem exec_startCan (s : State) : exec .startCan s = execStartCan s := rfl
theorem exec_startIoerr (s : State) : exec .startIoerr s = execStartIoerr s := rfl
theorem exec_startPoll (s : State) : exec .startPoll s = execStartPoll s := rfl
theorem exec_startPollAck (s : State) : exec .startPollAck s = execStartPollAck s := rfl
theorem exec_startExhaust (s : State) : exec .startExhaust s = execStartExhaust s := rfl
theorem exec_startExhaustAck (s : State) : exec .startExhaustAck s = execStartExhaustAck s := rfl
theorem exec_blockSend (s : State) : exec .blockSend s = execBlockSend s := rfl
theorem exec_blockSendEmpty (s : State) : exec .blockSendEmpty s = execBlockSendEmpty s := rfl
theorem exec_blockEof (s : State) : exec .blockEof s = execBlockEof s := rfl
theorem exec_blockIoerr (s : State) : exec .blockIoerr s = execBlockIoerr s := rfl
theorem exec_ackAdv (s : State) : exec .ackAdv s = execAckAdv s := rfl
theorem exec_ackCan (s : State) : exec .ackCan s = execAckCan s := rfl
theorem exec_ackRetry (s : State) : exec .ackRetry s = execAckRetry s := rfl
theorem exec_ackRetryC (s : State) : exec .ackRetryC s = execAckRetryC s := rfl
theorem exec_ackExhaust (s : State) : exec .ackExhaust s = execAckExhaust s := rfl
theorem exec_ackExhaustC (s : State) : exec .ackExhaustC s = execAckExhaustC s := rfl
theorem exec_ackIoerr (s : State) : exec .ackIoerr s = execAckIoerr s := rfl
theorem exec_retrySend (s : State) : exec .retrySend s = execRetrySend s := rfl
theorem exec_retryIoerr (s : State) : exec .retryIoerr s = execRetryIoerr s := rfl
theorem exec_eotSend (s : State) : exec .eotSend s = execEotSend s := rfl
theorem exec_eotIoerr (s : State) : exec .eotIoerr s = execEotIoerr s := rfl
theorem exec_eotackDone (s : State) : exec .eotackDone s = execEotackDone s := rfl
theorem exec_eotackCan (s : State) : exec .eotackCan s = execEotackCan s := rfl
theorem exec_eotackRetry (s : State) : exec .eotackRetry s = execEotackRetry s := rfl
theorem exec_eotackRetryC (s : State) : exec .eotackRetryC s = execEotackRetryC s := rfl
theorem exec_eotackExhaust (s : State) : exec .eotackExhaust s = execEotackExhaust s := rfl
theorem exec_eotackExhaustC (s : State) : exec .eotackExhaustC s = execEotackExhaustC s := rfl
theorem exec_eotackIoerr (s : State) : exec .eotackIoerr s = execEotackIoerr s := rfl

end Sys2Proof.Machine
end

