-- ==== Sys2Proof/Laws/Memory.lean ====
section
/-! SUPPORT. Sys2Proof/Laws/Memory.lean: the laws of the payload buffer: every write keeps the canonical form, a read after
a write gives the byte written at its index and leaves every other index alone. -/

namespace Sys2Proof.Machine

theorem cellsWf_cons (lo k : Nat) (v : Byte) (m : List Host.Cell) :
    cellsWf lo ((k, v) :: m) = true ↔
      lo ≤ k ∧ k < blockLen ∧ v ≠ unwrittenByte ∧ cellsWf (k + 1) m = true := by
  simp [cellsWf, and_assoc]

theorem cellsWf_mono {lo lo' : Nat} {m : List Host.Cell} (h : cellsWf lo m = true) (hl : lo' ≤ lo) :
    cellsWf lo' m = true := by
  cases m with
  | nil => rfl
  | cons c m =>
    obtain ⟨k, v⟩ := c
    rw [cellsWf_cons] at h ⊢
    exact ⟨hl.trans h.1, h.2⟩

theorem readByte_below {lo : Nat} {m : List Host.Cell} (h : cellsWf lo m = true) {a : Nat} (ha : a < lo) :
    readByte m a = unwrittenByte := by
  induction m generalizing lo with
  | nil => rfl
  | cons c m ih =>
    obtain ⟨k, v⟩ := c
    rw [cellsWf_cons] at h
    have hk : k ≠ a := by omega
    simp only [readByte, hk, if_false]
    exact ih h.2.2.2 (by omega)

theorem cellsWf_writeByte {lo : Nat} {m : List Host.Cell} (h : cellsWf lo m = true) {a : Nat} {b : Byte}
    (hlo : lo ≤ a) (ha : a < blockLen) : cellsWf lo (writeByte m a b) = true := by
  induction m generalizing lo with
  | nil => by_cases hb : b = unwrittenByte <;> simp [writeByte, hb, cellsWf, hlo, ha]
  | cons c m ih =>
    obtain ⟨k, v⟩ := c
    rw [cellsWf_cons] at h
    obtain ⟨h1, h2, h3, h4⟩ := h
    unfold writeByte
    split_ifs with c1 c2 c3 c4
    · exact (cellsWf_cons ..).2 ⟨h1, h2, h3, h4⟩
    · exact (cellsWf_cons ..).2 ⟨hlo, ha, c2, (cellsWf_cons ..).2 ⟨c1, h2, h3, h4⟩⟩
    · exact cellsWf_mono h4 (by omega)
    · subst c3; exact (cellsWf_cons ..).2 ⟨hlo, ha, c4, h4⟩
    · exact (cellsWf_cons ..).2 ⟨h1, h2, h3, ih h4 (by omega)⟩

theorem readByte_writeByte {lo : Nat} {m : List Host.Cell} (h : cellsWf lo m = true) (a x : Nat) (b : Byte) :
    readByte (writeByte m a b) x = if x = a then b else readByte m x := by
  induction m generalizing lo with
  | nil =>
    by_cases hb : b = unwrittenByte
    · rw [writeByte, if_pos hb, hb]; exact (ite_self _).symm
    · rw [writeByte, if_neg hb, readByte]
      exact if_congr eq_comm rfl rfl
  | cons c m ih =>
    obtain ⟨k, v⟩ := c
    rw [cellsWf_cons] at h
    obtain ⟨h1, h2, h3, h4⟩ := h
    unfold writeByte
    split_ifs with c1 c2 cx c3 c4 c5 c6 c7 c8
    · subst cx; rw [readByte, if_neg (by omega), readByte_below h4 (by omega), c2]
    · rfl
    · subst c3; rw [readByte, if_pos rfl]
    · rw [readByte, if_neg (Ne.symm c3)]
    · rw [c6, c5]; exact readByte_below h4 (by omega)
    · rw [readByte, if_neg (by omega)]
    · rw [readByte, if_pos c7.symm]
    · rw [readByte, if_neg (Ne.symm c7), readByte, if_neg (by omega)]
    · rw [readByte, if_neg (by omega), ih h4, if_pos c8]
    · rw [readByte, readByte, ih h4, if_neg c8]

theorem memoryWf_writeBytes {m : List Host.Cell} (h : memoryWf m = true) {a : Nat} {bs : List Byte}
    (ha : a + bs.length ≤ blockLen) : memoryWf (writeBytes m a bs) = true := by
  induction bs generalizing m a with
  | nil => exact h
  | cons b bs ih =>
    simp only [List.length_cons] at ha
    exact ih (cellsWf_writeByte h (Nat.zero_le a) (by omega)) (by omega)

theorem readByte_writeBytes {m : List Host.Cell} (h : memoryWf m = true) {a : Nat} {bs : List Byte}
    (ha : a + bs.length ≤ blockLen) (x : Nat) :
    readByte (writeBytes m a bs) x = if a ≤ x then bs[x - a]?.getD (readByte m x) else readByte m x := by
  induction bs generalizing m a with
  | nil => simp [writeBytes]
  | cons b bs ih =>
    simp only [List.length_cons] at ha
    have hw : memoryWf (writeByte m a b) = true := cellsWf_writeByte h (Nat.zero_le a) (by omega)
    rw [writeBytes, ih hw (by omega), readByte_writeByte h]
    by_cases h1 : a + 1 ≤ x
    · have h2 : x - a = (x - (a + 1)) + 1 := by omega
      have h3 : x ≠ a := by omega
      rw [if_pos h1, if_pos (by omega : a ≤ x), h2, List.getElem?_cons_succ, if_neg h3]
    · rw [if_neg h1]
      by_cases hx : x = a
      · subst hx; simp
      · rw [if_neg hx, if_neg (by omega)]

theorem length_readBytes (m : List Host.Cell) (a n : Nat) : (readBytes m a n).length = n := by
  induction n generalizing a with
  | zero => rfl
  | succ n ih => simp [readBytes, ih]

theorem getElem?_readBytes (m : List Host.Cell) (a n i : Nat) (hi : i < n) :
    (readBytes m a n)[i]? = some (readByte m (a + i)) := by
  induction n generalizing a i with
  | zero => omega
  | succ n ih =>
    cases i with
    | zero => simp [readBytes]
    | succ i => simp [readBytes, ih (a + 1) i (by omega)]; congr 1; omega

/-- The bytes written are the bytes read (R62). -/
theorem readBytes_writeBytes {m : List Host.Cell} (h : memoryWf m = true) {a : Nat} {bs : List Byte}
    (ha : a + bs.length ≤ blockLen) : readBytes (writeBytes m a bs) a bs.length = bs := by
  apply List.ext_getElem?
  intro i
  by_cases hi : i < bs.length
  · rw [getElem?_readBytes _ _ _ _ hi, readByte_writeBytes h ha, if_pos (by omega)]
    have : a + i - a = i := by omega
    rw [this, List.getElem?_eq_getElem hi]; rfl
  · rw [List.getElem?_eq_none (by rw [length_readBytes]; omega), List.getElem?_eq_none (by omega)]

end Sys2Proof.Machine
end

