-- ==== Sys2Proof/Laws/Session.lean ====
section
/-! SUPPORT. Sys2Proof/Laws/Session.lean: the arithmetic of a session: the number of Blocks and the advance of a sequence
number, in natural numbers. -/

namespace Sys2Proof.Machine

theorem blocksOf_eq (s : State) : blocksOf s = max 1 ((s.src.length + 127) / 128) := by
  unfold blocksOf; split_ifs <;> omega

theorem blocksOf_congr {s t : State} (h : t.src = s.src) : blocksOf t = blocksOf s := by
  simp only [blocksOf, h]

theorem nextSeq_toNat (q : Byte) : (nextSeq q).toNat = if q.toNat = 255 then 1 else q.toNat + 1 := by
  revert q; decide +kernel

end Sys2Proof.Machine
end

