-- ==== Sys2Proof/Laws/State.lean ====
section
/-! SUPPORT. Sys2Proof/Laws/State.lean: one lemma per field per named update of the state, so that no later proof unfolds a
record update. -/

namespace Sys2Proof.Machine

@[simp] theorem emit_cfg (e : Event) (s : State) : (emit e s).cfg = s.cfg := rfl
@[simp] theorem emit_src (e : Event) (s : State) : (emit e s).src = s.src := rfl
@[simp] theorem emit_fsm (e : Event) (s : State) : (emit e s).fsm = s.fsm := rfl
@[simp] theorem emit_seq (e : Event) (s : State) : (emit e s).seq = s.seq := rfl
@[simp] theorem emit_crc (e : Event) (s : State) : (emit e s).crc = s.crc := rfl
@[simp] theorem emit_pay (e : Event) (s : State) : (emit e s).pay = s.pay := rfl
@[simp] theorem emit_chunkLen (e : Event) (s : State) : (emit e s).chunkLen = s.chunkLen := rfl
@[simp] theorem emit_retryCount (e : Event) (s : State) : (emit e s).retryCount = s.retryCount := rfl
@[simp] theorem emit_pollCount (e : Event) (s : State) : (emit e s).pollCount = s.pollCount := rfl
@[simp] theorem emit_filePos (e : Event) (s : State) : (emit e s).filePos = s.filePos := rfl
@[simp] theorem emit_bytesSent (e : Event) (s : State) : (emit e s).bytesSent = s.bytesSent := rfl
@[simp] theorem emit_blockIndex (e : Event) (s : State) : (emit e s).blockIndex = s.blockIndex := rfl
@[simp] theorem emit_reason (e : Event) (s : State) : (emit e s).reason = s.reason := rfl
@[simp] theorem emit_cancelReq (e : Event) (s : State) : (emit e s).cancelReq = s.cancelReq := rfl
@[simp] theorem emit_srcAnswers (e : Event) (s : State) : (emit e s).srcAnswers = s.srcAnswers := rfl
@[simp] theorem emit_rx (e : Event) (s : State) : (emit e s).rx = s.rx := rfl
@[simp] theorem emit_wrAnswers (e : Event) (s : State) : (emit e s).wrAnswers = s.wrAnswers := rfl
@[simp] theorem emit_tx (e : Event) (s : State) : (emit e s).tx = s.tx := rfl
@[simp] theorem emit_writes (e : Event) (s : State) : (emit e s).writes = s.writes := rfl
@[simp] theorem emit_reads (e : Event) (s : State) : (emit e s).reads = s.reads := rfl
@[simp] theorem emit_events (e : Event) (s : State) : (emit e s).events = s.events ++ [e] := rfl
@[simp] theorem emit_calls (e : Event) (s : State) : (emit e s).calls = s.calls := rfl
@[simp] theorem emit_answer (e : Event) (s : State) : (emit e s).answer = s.answer := rfl
@[simp] theorem emit_tick (e : Event) (s : State) : (emit e s).tick = s.tick := rfl

@[simp] theorem afterCancel_cfg (s : State) : (afterCancel s).cfg = s.cfg := rfl
@[simp] theorem afterCancel_src (s : State) : (afterCancel s).src = s.src := rfl
@[simp] theorem afterCancel_fsm (s : State) : (afterCancel s).fsm = s.fsm := rfl
@[simp] theorem afterCancel_seq (s : State) : (afterCancel s).seq = s.seq := rfl
@[simp] theorem afterCancel_crc (s : State) : (afterCancel s).crc = s.crc := rfl
@[simp] theorem afterCancel_pay (s : State) : (afterCancel s).pay = s.pay := rfl
@[simp] theorem afterCancel_chunkLen (s : State) : (afterCancel s).chunkLen = s.chunkLen := rfl
@[simp] theorem afterCancel_retryCount (s : State) : (afterCancel s).retryCount = s.retryCount := rfl
@[simp] theorem afterCancel_pollCount (s : State) : (afterCancel s).pollCount = s.pollCount := rfl
@[simp] theorem afterCancel_filePos (s : State) : (afterCancel s).filePos = s.filePos := rfl
@[simp] theorem afterCancel_bytesSent (s : State) : (afterCancel s).bytesSent = s.bytesSent := rfl
@[simp] theorem afterCancel_blockIndex (s : State) : (afterCancel s).blockIndex = s.blockIndex := rfl
@[simp] theorem afterCancel_reason (s : State) : (afterCancel s).reason = s.reason := rfl
@[simp] theorem afterCancel_cancelReq (s : State) : (afterCancel s).cancelReq = s.cancelReq.tail := rfl
@[simp] theorem afterCancel_srcAnswers (s : State) : (afterCancel s).srcAnswers = s.srcAnswers := rfl
@[simp] theorem afterCancel_rx (s : State) : (afterCancel s).rx = s.rx := rfl
@[simp] theorem afterCancel_wrAnswers (s : State) : (afterCancel s).wrAnswers = s.wrAnswers := rfl
@[simp] theorem afterCancel_tx (s : State) : (afterCancel s).tx = s.tx := rfl
@[simp] theorem afterCancel_writes (s : State) : (afterCancel s).writes = s.writes := rfl
@[simp] theorem afterCancel_reads (s : State) : (afterCancel s).reads = s.reads := rfl
@[simp] theorem afterCancel_events (s : State) : (afterCancel s).events = s.events := rfl
@[simp] theorem afterCancel_calls (s : State) : (afterCancel s).calls = s.calls := rfl
@[simp] theorem afterCancel_answer (s : State) : (afterCancel s).answer = s.answer := rfl
@[simp] theorem afterCancel_tick (s : State) : (afterCancel s).tick = s.tick + 1 := rfl

@[simp] theorem readChannel_cfg (t : Nat) (s : State) : (readChannel t s).2.cfg = s.cfg := rfl
@[simp] theorem readChannel_src (t : Nat) (s : State) : (readChannel t s).2.src = s.src := rfl
@[simp] theorem readChannel_fsm (t : Nat) (s : State) : (readChannel t s).2.fsm = s.fsm := rfl
@[simp] theorem readChannel_seq (t : Nat) (s : State) : (readChannel t s).2.seq = s.seq := rfl
@[simp] theorem readChannel_crc (t : Nat) (s : State) : (readChannel t s).2.crc = s.crc := rfl
@[simp] theorem readChannel_pay (t : Nat) (s : State) : (readChannel t s).2.pay = s.pay := rfl
@[simp] theorem readChannel_chunkLen (t : Nat) (s : State) : (readChannel t s).2.chunkLen = s.chunkLen := rfl
@[simp] theorem readChannel_retryCount (t : Nat) (s : State) : (readChannel t s).2.retryCount = s.retryCount := rfl
@[simp] theorem readChannel_pollCount (t : Nat) (s : State) : (readChannel t s).2.pollCount = s.pollCount := rfl
@[simp] theorem readChannel_filePos (t : Nat) (s : State) : (readChannel t s).2.filePos = s.filePos := rfl
@[simp] theorem readChannel_bytesSent (t : Nat) (s : State) : (readChannel t s).2.bytesSent = s.bytesSent := rfl
@[simp] theorem readChannel_blockIndex (t : Nat) (s : State) : (readChannel t s).2.blockIndex = s.blockIndex := rfl
@[simp] theorem readChannel_reason (t : Nat) (s : State) : (readChannel t s).2.reason = s.reason := rfl
@[simp] theorem readChannel_cancelReq (t : Nat) (s : State) : (readChannel t s).2.cancelReq = s.cancelReq := rfl
@[simp] theorem readChannel_srcAnswers (t : Nat) (s : State) : (readChannel t s).2.srcAnswers = s.srcAnswers := rfl
@[simp] theorem readChannel_rx (t : Nat) (s : State) : (readChannel t s).2.rx = s.rx.tail := rfl
@[simp] theorem readChannel_wrAnswers (t : Nat) (s : State) : (readChannel t s).2.wrAnswers = s.wrAnswers := rfl
@[simp] theorem readChannel_tx (t : Nat) (s : State) : (readChannel t s).2.tx = s.tx := rfl
@[simp] theorem readChannel_writes (t : Nat) (s : State) : (readChannel t s).2.writes = s.writes := rfl
@[simp] theorem readChannel_reads (t : Nat) (s : State) : (readChannel t s).2.reads = s.reads ++ [t] := rfl
@[simp] theorem readChannel_events (t : Nat) (s : State) : (readChannel t s).2.events = s.events := rfl
@[simp] theorem readChannel_calls (t : Nat) (s : State) : (readChannel t s).2.calls = s.calls := rfl
@[simp] theorem readChannel_answer (t : Nat) (s : State) : (readChannel t s).2.answer = s.answer := rfl
@[simp] theorem readChannel_tick (t : Nat) (s : State) : (readChannel t s).2.tick = s.tick + 1 := rfl

@[simp] theorem readSource_cfg (a n : Nat) (s : State) : (readSource a n s).2.cfg = s.cfg := rfl
@[simp] theorem readSource_src (a n : Nat) (s : State) : (readSource a n s).2.src = s.src := rfl
@[simp] theorem readSource_fsm (a n : Nat) (s : State) : (readSource a n s).2.fsm = s.fsm := rfl
@[simp] theorem readSource_seq (a n : Nat) (s : State) : (readSource a n s).2.seq = s.seq := rfl
@[simp] theorem readSource_crc (a n : Nat) (s : State) : (readSource a n s).2.crc = s.crc := rfl
@[simp] theorem readSource_pay (a n : Nat) (s : State) : (readSource a n s).2.pay = s.pay := rfl
@[simp] theorem readSource_chunkLen (a n : Nat) (s : State) : (readSource a n s).2.chunkLen = s.chunkLen := rfl
@[simp] theorem readSource_retryCount (a n : Nat) (s : State) : (readSource a n s).2.retryCount = s.retryCount := rfl
@[simp] theorem readSource_pollCount (a n : Nat) (s : State) : (readSource a n s).2.pollCount = s.pollCount := rfl
@[simp] theorem readSource_filePos (a n : Nat) (s : State) : (readSource a n s).2.filePos = s.filePos := rfl
@[simp] theorem readSource_bytesSent (a n : Nat) (s : State) : (readSource a n s).2.bytesSent = s.bytesSent := rfl
@[simp] theorem readSource_blockIndex (a n : Nat) (s : State) : (readSource a n s).2.blockIndex = s.blockIndex := rfl
@[simp] theorem readSource_reason (a n : Nat) (s : State) : (readSource a n s).2.reason = s.reason := rfl
@[simp] theorem readSource_cancelReq (a n : Nat) (s : State) : (readSource a n s).2.cancelReq = s.cancelReq := rfl
@[simp] theorem readSource_srcAnswers (a n : Nat) (s : State) : (readSource a n s).2.srcAnswers = s.srcAnswers.tail := rfl
@[simp] theorem readSource_rx (a n : Nat) (s : State) : (readSource a n s).2.rx = s.rx := rfl
@[simp] theorem readSource_wrAnswers (a n : Nat) (s : State) : (readSource a n s).2.wrAnswers = s.wrAnswers := rfl
@[simp] theorem readSource_tx (a n : Nat) (s : State) : (readSource a n s).2.tx = s.tx := rfl
@[simp] theorem readSource_writes (a n : Nat) (s : State) : (readSource a n s).2.writes = s.writes := rfl
@[simp] theorem readSource_reads (a n : Nat) (s : State) : (readSource a n s).2.reads = s.reads := rfl
@[simp] theorem readSource_events (a n : Nat) (s : State) : (readSource a n s).2.events = s.events := rfl
@[simp] theorem readSource_calls (a n : Nat) (s : State) : (readSource a n s).2.calls = s.calls := rfl
@[simp] theorem readSource_answer (a n : Nat) (s : State) : (readSource a n s).2.answer = s.answer := rfl
@[simp] theorem readSource_tick (a n : Nat) (s : State) : (readSource a n s).2.tick = s.tick + 1 := rfl

@[simp] theorem afterSource_cfg (s : State) : (afterSource s).cfg = s.cfg := rfl
@[simp] theorem afterSource_src (s : State) : (afterSource s).src = s.src := rfl
@[simp] theorem afterSource_fsm (s : State) : (afterSource s).fsm = s.fsm := rfl
@[simp] theorem afterSource_seq (s : State) : (afterSource s).seq = s.seq := rfl
@[simp] theorem afterSource_crc (s : State) : (afterSource s).crc = s.crc := rfl
@[simp] theorem afterSource_pay (s : State) : (afterSource s).pay = s.pay := rfl
@[simp] theorem afterSource_chunkLen (s : State) : (afterSource s).chunkLen = s.chunkLen := rfl
@[simp] theorem afterSource_retryCount (s : State) : (afterSource s).retryCount = s.retryCount := rfl
@[simp] theorem afterSource_pollCount (s : State) : (afterSource s).pollCount = s.pollCount := rfl
@[simp] theorem afterSource_filePos (s : State) : (afterSource s).filePos = s.filePos := rfl
@[simp] theorem afterSource_bytesSent (s : State) : (afterSource s).bytesSent = s.bytesSent := rfl
@[simp] theorem afterSource_blockIndex (s : State) : (afterSource s).blockIndex = s.blockIndex := rfl
@[simp] theorem afterSource_reason (s : State) : (afterSource s).reason = s.reason := rfl
@[simp] theorem afterSource_cancelReq (s : State) : (afterSource s).cancelReq = s.cancelReq.tail := rfl
@[simp] theorem afterSource_srcAnswers (s : State) : (afterSource s).srcAnswers = s.srcAnswers.tail := rfl
@[simp] theorem afterSource_rx (s : State) : (afterSource s).rx = s.rx := rfl
@[simp] theorem afterSource_wrAnswers (s : State) : (afterSource s).wrAnswers = s.wrAnswers := rfl
@[simp] theorem afterSource_tx (s : State) : (afterSource s).tx = s.tx := rfl
@[simp] theorem afterSource_writes (s : State) : (afterSource s).writes = s.writes := rfl
@[simp] theorem afterSource_reads (s : State) : (afterSource s).reads = s.reads := rfl
@[simp] theorem afterSource_events (s : State) : (afterSource s).events = s.events := rfl
@[simp] theorem afterSource_calls (s : State) : (afterSource s).calls = s.calls := rfl
@[simp] theorem afterSource_answer (s : State) : (afterSource s).answer = s.answer := rfl
@[simp] theorem afterSource_tick (s : State) : (afterSource s).tick = s.tick + 2 := rfl

@[simp] theorem writeChannel_cfg (bs : List Byte) (s : State) : (writeChannel bs s).2.cfg = s.cfg := by unfold writeChannel; split <;> rfl
@[simp] theorem writeChannel_src (bs : List Byte) (s : State) : (writeChannel bs s).2.src = s.src := by unfold writeChannel; split <;> rfl
@[simp] theorem writeChannel_fsm (bs : List Byte) (s : State) : (writeChannel bs s).2.fsm = s.fsm := by unfold writeChannel; split <;> rfl
@[simp] theorem writeChannel_seq (bs : List Byte) (s : State) : (writeChannel bs s).2.seq = s.seq := by unfold writeChannel; split <;> rfl
@[simp] theorem writeChannel_crc (bs : List Byte) (s : State) : (writeChannel bs s).2.crc = s.crc := by unfold writeChannel; split <;> rfl
@[simp] theorem writeChannel_pay (bs : List Byte) (s : State) : (writeChannel bs s).2.pay = s.pay := by unfold writeChannel; split <;> rfl
@[simp] theorem writeChannel_chunkLen (bs : List Byte) (s : State) : (writeChannel bs s).2.chunkLen = s.chunkLen := by unfold writeChannel; split <;> rfl
@[simp] theorem writeChannel_retryCount (bs : List Byte) (s : State) : (writeChannel bs s).2.retryCount = s.retryCount := by unfold writeChannel; split <;> rfl
@[simp] theorem writeChannel_pollCount (bs : List Byte) (s : State) : (writeChannel bs s).2.pollCount = s.pollCount := by unfold writeChannel; split <;> rfl
@[simp] theorem writeChannel_filePos (bs : List Byte) (s : State) : (writeChannel bs s).2.filePos = s.filePos := by unfold writeChannel; split <;> rfl
@[simp] theorem writeChannel_bytesSent (bs : List Byte) (s : State) : (writeChannel bs s).2.bytesSent = s.bytesSent := by unfold writeChannel; split <;> rfl
@[simp] theorem writeChannel_blockIndex (bs : List Byte) (s : State) : (writeChannel bs s).2.blockIndex = s.blockIndex := by unfold writeChannel; split <;> rfl
@[simp] theorem writeChannel_reason (bs : List Byte) (s : State) : (writeChannel bs s).2.reason = s.reason := by unfold writeChannel; split <;> rfl
@[simp] theorem writeChannel_cancelReq (bs : List Byte) (s : State) : (writeChannel bs s).2.cancelReq = s.cancelReq := by unfold writeChannel; split <;> rfl
@[simp] theorem writeChannel_srcAnswers (bs : List Byte) (s : State) : (writeChannel bs s).2.srcAnswers = s.srcAnswers := by unfold writeChannel; split <;> rfl
@[simp] theorem writeChannel_rx (bs : List Byte) (s : State) : (writeChannel bs s).2.rx = s.rx := by unfold writeChannel; split <;> rfl
@[simp] theorem writeChannel_wrAnswers (bs : List Byte) (s : State) : (writeChannel bs s).2.wrAnswers = s.wrAnswers.tail := by unfold writeChannel; split <;> rfl
@[simp] theorem writeChannel_writes (bs : List Byte) (s : State) : (writeChannel bs s).2.writes = s.writes ++ [bs] := by unfold writeChannel; split <;> rfl
@[simp] theorem writeChannel_reads (bs : List Byte) (s : State) : (writeChannel bs s).2.reads = s.reads := by unfold writeChannel; split <;> rfl
@[simp] theorem writeChannel_events (bs : List Byte) (s : State) : (writeChannel bs s).2.events = s.events := by unfold writeChannel; split <;> rfl
@[simp] theorem writeChannel_calls (bs : List Byte) (s : State) : (writeChannel bs s).2.calls = s.calls := by unfold writeChannel; split <;> rfl
@[simp] theorem writeChannel_answer (bs : List Byte) (s : State) : (writeChannel bs s).2.answer = s.answer := by unfold writeChannel; split <;> rfl
@[simp] theorem writeChannel_tick (bs : List Byte) (s : State) : (writeChannel bs s).2.tick = s.tick + 1 := by unfold writeChannel; split <;> rfl

@[simp] theorem finish_cfg (s0 : State) (d : Fsm) (o : EventOutcome) (s : State) : (finish s0 d o s).cfg = s.cfg := rfl
@[simp] theorem finish_src (s0 : State) (d : Fsm) (o : EventOutcome) (s : State) : (finish s0 d o s).src = s.src := rfl
@[simp] theorem finish_fsm (s0 : State) (d : Fsm) (o : EventOutcome) (s : State) : (finish s0 d o s).fsm = d := rfl
@[simp] theorem finish_seq (s0 : State) (d : Fsm) (o : EventOutcome) (s : State) : (finish s0 d o s).seq = s.seq := rfl
@[simp] theorem finish_crc (s0 : State) (d : Fsm) (o : EventOutcome) (s : State) : (finish s0 d o s).crc = s.crc := rfl
@[simp] theorem finish_pay (s0 : State) (d : Fsm) (o : EventOutcome) (s : State) : (finish s0 d o s).pay = s.pay := rfl
@[simp] theorem finish_chunkLen (s0 : State) (d : Fsm) (o : EventOutcome) (s : State) : (finish s0 d o s).chunkLen = s.chunkLen := rfl
@[simp] theorem finish_retryCount (s0 : State) (d : Fsm) (o : EventOutcome) (s : State) : (finish s0 d o s).retryCount = s.retryCount := rfl
@[simp] theorem finish_pollCount (s0 : State) (d : Fsm) (o : EventOutcome) (s : State) : (finish s0 d o s).pollCount = s.pollCount := rfl
@[simp] theorem finish_filePos (s0 : State) (d : Fsm) (o : EventOutcome) (s : State) : (finish s0 d o s).filePos = s.filePos := rfl
@[simp] theorem finish_bytesSent (s0 : State) (d : Fsm) (o : EventOutcome) (s : State) : (finish s0 d o s).bytesSent = s.bytesSent := rfl
@[simp] theorem finish_blockIndex (s0 : State) (d : Fsm) (o : EventOutcome) (s : State) : (finish s0 d o s).blockIndex = s.blockIndex := rfl
@[simp] theorem finish_reason (s0 : State) (d : Fsm) (o : EventOutcome) (s : State) : (finish s0 d o s).reason = s.reason := rfl
@[simp] theorem finish_cancelReq (s0 : State) (d : Fsm) (o : EventOutcome) (s : State) : (finish s0 d o s).cancelReq = s.cancelReq := rfl
@[simp] theorem finish_srcAnswers (s0 : State) (d : Fsm) (o : EventOutcome) (s : State) : (finish s0 d o s).srcAnswers = s.srcAnswers := rfl
@[simp] theorem finish_rx (s0 : State) (d : Fsm) (o : EventOutcome) (s : State) : (finish s0 d o s).rx = s.rx := rfl
@[simp] theorem finish_wrAnswers (s0 : State) (d : Fsm) (o : EventOutcome) (s : State) : (finish s0 d o s).wrAnswers = s.wrAnswers := rfl
@[simp] theorem finish_tx (s0 : State) (d : Fsm) (o : EventOutcome) (s : State) : (finish s0 d o s).tx = s.tx := rfl
@[simp] theorem finish_writes (s0 : State) (d : Fsm) (o : EventOutcome) (s : State) : (finish s0 d o s).writes = s.writes := rfl
@[simp] theorem finish_reads (s0 : State) (d : Fsm) (o : EventOutcome) (s : State) : (finish s0 d o s).reads = s.reads := rfl
@[simp] theorem finish_events (s0 : State) (d : Fsm) (o : EventOutcome) (s : State) : (finish s0 d o s).events = s.events ++ [evTrans s0.seq s0.fsm d o] := rfl
@[simp] theorem finish_calls (s0 : State) (d : Fsm) (o : EventOutcome) (s : State) : (finish s0 d o s).calls = s.calls := rfl
@[simp] theorem finish_answer (s0 : State) (d : Fsm) (o : EventOutcome) (s : State) : (finish s0 d o s).answer = s.answer := rfl
@[simp] theorem finish_tick (s0 : State) (d : Fsm) (o : EventOutcome) (s : State) : (finish s0 d o s).tick = s.tick := rfl

@[simp] theorem raiseFailed_cfg (s0 : State) (r : FailReason) (s : State) : (raiseFailed s0 r s).cfg = s.cfg := rfl
@[simp] theorem raiseFailed_src (s0 : State) (r : FailReason) (s : State) : (raiseFailed s0 r s).src = s.src := rfl
@[simp] theorem raiseFailed_fsm (s0 : State) (r : FailReason) (s : State) : (raiseFailed s0 r s).fsm = .failed := rfl
@[simp] theorem raiseFailed_seq (s0 : State) (r : FailReason) (s : State) : (raiseFailed s0 r s).seq = s.seq := rfl
@[simp] theorem raiseFailed_crc (s0 : State) (r : FailReason) (s : State) : (raiseFailed s0 r s).crc = s.crc := rfl
@[simp] theorem raiseFailed_pay (s0 : State) (r : FailReason) (s : State) : (raiseFailed s0 r s).pay = s.pay := rfl
@[simp] theorem raiseFailed_chunkLen (s0 : State) (r : FailReason) (s : State) : (raiseFailed s0 r s).chunkLen = s.chunkLen := rfl
@[simp] theorem raiseFailed_retryCount (s0 : State) (r : FailReason) (s : State) : (raiseFailed s0 r s).retryCount = s.retryCount := rfl
@[simp] theorem raiseFailed_pollCount (s0 : State) (r : FailReason) (s : State) : (raiseFailed s0 r s).pollCount = s.pollCount := rfl
@[simp] theorem raiseFailed_filePos (s0 : State) (r : FailReason) (s : State) : (raiseFailed s0 r s).filePos = s.filePos := rfl
@[simp] theorem raiseFailed_bytesSent (s0 : State) (r : FailReason) (s : State) : (raiseFailed s0 r s).bytesSent = s.bytesSent := rfl
@[simp] theorem raiseFailed_blockIndex (s0 : State) (r : FailReason) (s : State) : (raiseFailed s0 r s).blockIndex = s.blockIndex := rfl
@[simp] theorem raiseFailed_reason (s0 : State) (r : FailReason) (s : State) : (raiseFailed s0 r s).reason = some r := rfl
@[simp] theorem raiseFailed_cancelReq (s0 : State) (r : FailReason) (s : State) : (raiseFailed s0 r s).cancelReq = s.cancelReq := rfl
@[simp] theorem raiseFailed_srcAnswers (s0 : State) (r : FailReason) (s : State) : (raiseFailed s0 r s).srcAnswers = s.srcAnswers := rfl
@[simp] theorem raiseFailed_rx (s0 : State) (r : FailReason) (s : State) : (raiseFailed s0 r s).rx = s.rx := rfl
@[simp] theorem raiseFailed_wrAnswers (s0 : State) (r : FailReason) (s : State) : (raiseFailed s0 r s).wrAnswers = s.wrAnswers := rfl
@[simp] theorem raiseFailed_tx (s0 : State) (r : FailReason) (s : State) : (raiseFailed s0 r s).tx = s.tx := rfl
@[simp] theorem raiseFailed_writes (s0 : State) (r : FailReason) (s : State) : (raiseFailed s0 r s).writes = s.writes := rfl
@[simp] theorem raiseFailed_reads (s0 : State) (r : FailReason) (s : State) : (raiseFailed s0 r s).reads = s.reads := rfl
@[simp] theorem raiseFailed_events (s0 : State) (r : FailReason) (s : State) : (raiseFailed s0 r s).events = s.events ++ [evTrans s0.seq s0.fsm .failed (.reason r)] := rfl
@[simp] theorem raiseFailed_calls (s0 : State) (r : FailReason) (s : State) : (raiseFailed s0 r s).calls = s.calls := rfl
@[simp] theorem raiseFailed_answer (s0 : State) (r : FailReason) (s : State) : (raiseFailed s0 r s).answer = s.answer := rfl
@[simp] theorem raiseFailed_tick (s0 : State) (r : FailReason) (s : State) : (raiseFailed s0 r s).tick = s.tick := rfl

@[simp] theorem noteRead_cfg (a : ReadAnswer) (s : State) : (noteRead a s).cfg = s.cfg := by cases a <;> simp [noteRead]
@[simp] theorem noteRead_src (a : ReadAnswer) (s : State) : (noteRead a s).src = s.src := by cases a <;> simp [noteRead]
@[simp] theorem noteRead_fsm (a : ReadAnswer) (s : State) : (noteRead a s).fsm = s.fsm := by cases a <;> simp [noteRead]
@[simp] theorem noteRead_seq (a : ReadAnswer) (s : State) : (noteRead a s).seq = s.seq := by cases a <;> simp [noteRead]
@[simp] theorem noteRead_crc (a : ReadAnswer) (s : State) : (noteRead a s).crc = s.crc := by cases a <;> simp [noteRead]
@[simp] theorem noteRead_pay (a : ReadAnswer) (s : State) : (noteRead a s).pay = s.pay := by cases a <;> simp [noteRead]
@[simp] theorem noteRead_chunkLen (a : ReadAnswer) (s : State) : (noteRead a s).chunkLen = s.chunkLen := by cases a <;> simp [noteRead]
@[simp] theorem noteRead_retryCount (a : ReadAnswer) (s : State) : (noteRead a s).retryCount = s.retryCount := by cases a <;> simp [noteRead]
@[simp] theorem noteRead_pollCount (a : ReadAnswer) (s : State) : (noteRead a s).pollCount = s.pollCount := by cases a <;> simp [noteRead]
@[simp] theorem noteRead_filePos (a : ReadAnswer) (s : State) : (noteRead a s).filePos = s.filePos := by cases a <;> simp [noteRead]
@[simp] theorem noteRead_bytesSent (a : ReadAnswer) (s : State) : (noteRead a s).bytesSent = s.bytesSent := by cases a <;> simp [noteRead]
@[simp] theorem noteRead_blockIndex (a : ReadAnswer) (s : State) : (noteRead a s).blockIndex = s.blockIndex := by cases a <;> simp [noteRead]
@[simp] theorem noteRead_reason (a : ReadAnswer) (s : State) : (noteRead a s).reason = s.reason := by cases a <;> simp [noteRead]
@[simp] theorem noteRead_cancelReq (a : ReadAnswer) (s : State) : (noteRead a s).cancelReq = s.cancelReq := by cases a <;> simp [noteRead]
@[simp] theorem noteRead_srcAnswers (a : ReadAnswer) (s : State) : (noteRead a s).srcAnswers = s.srcAnswers := by cases a <;> simp [noteRead]
@[simp] theorem noteRead_rx (a : ReadAnswer) (s : State) : (noteRead a s).rx = s.rx := by cases a <;> simp [noteRead]
@[simp] theorem noteRead_wrAnswers (a : ReadAnswer) (s : State) : (noteRead a s).wrAnswers = s.wrAnswers := by cases a <;> simp [noteRead]
@[simp] theorem noteRead_tx (a : ReadAnswer) (s : State) : (noteRead a s).tx = s.tx := by cases a <;> simp [noteRead]
@[simp] theorem noteRead_writes (a : ReadAnswer) (s : State) : (noteRead a s).writes = s.writes := by cases a <;> simp [noteRead]
@[simp] theorem noteRead_reads (a : ReadAnswer) (s : State) : (noteRead a s).reads = s.reads := by cases a <;> simp [noteRead]
@[simp] theorem noteRead_events (a : ReadAnswer) (s : State) : (noteRead a s).events = s.events ++ rxEvents s.seq a := by cases a <;> simp [noteRead, rxEvents]
@[simp] theorem noteRead_calls (a : ReadAnswer) (s : State) : (noteRead a s).calls = s.calls := by cases a <;> simp [noteRead]
@[simp] theorem noteRead_answer (a : ReadAnswer) (s : State) : (noteRead a s).answer = s.answer := by cases a <;> simp [noteRead]
@[simp] theorem noteRead_tick (a : ReadAnswer) (s : State) : (noteRead a s).tick = s.tick := by cases a <;> simp [noteRead]

@[simp] theorem afterRead_cfg (s : State) : (afterRead s).cfg = s.cfg := by simp [afterRead]
@[simp] theorem afterRead_src (s : State) : (afterRead s).src = s.src := by simp [afterRead]
@[simp] theorem afterRead_fsm (s : State) : (afterRead s).fsm = s.fsm := by simp [afterRead]
@[simp] theorem afterRead_seq (s : State) : (afterRead s).seq = s.seq := by simp [afterRead]
@[simp] theorem afterRead_crc (s : State) : (afterRead s).crc = s.crc := by simp [afterRead]
@[simp] theorem afterRead_pay (s : State) : (afterRead s).pay = s.pay := by simp [afterRead]
@[simp] theorem afterRead_chunkLen (s : State) : (afterRead s).chunkLen = s.chunkLen := by simp [afterRead]
@[simp] theorem afterRead_retryCount (s : State) : (afterRead s).retryCount = s.retryCount := by simp [afterRead]
@[simp] theorem afterRead_pollCount (s : State) : (afterRead s).pollCount = s.pollCount := by simp [afterRead]
@[simp] theorem afterRead_filePos (s : State) : (afterRead s).filePos = s.filePos := by simp [afterRead]
@[simp] theorem afterRead_bytesSent (s : State) : (afterRead s).bytesSent = s.bytesSent := by simp [afterRead]
@[simp] theorem afterRead_blockIndex (s : State) : (afterRead s).blockIndex = s.blockIndex := by simp [afterRead]
@[simp] theorem afterRead_reason (s : State) : (afterRead s).reason = s.reason := by simp [afterRead]
@[simp] theorem afterRead_cancelReq (s : State) : (afterRead s).cancelReq = s.cancelReq.tail := by simp [afterRead]
@[simp] theorem afterRead_srcAnswers (s : State) : (afterRead s).srcAnswers = s.srcAnswers := by simp [afterRead]
@[simp] theorem afterRead_rx (s : State) : (afterRead s).rx = s.rx.tail := by simp [afterRead]
@[simp] theorem afterRead_wrAnswers (s : State) : (afterRead s).wrAnswers = s.wrAnswers := by simp [afterRead]
@[simp] theorem afterRead_tx (s : State) : (afterRead s).tx = s.tx := by simp [afterRead]
@[simp] theorem afterRead_writes (s : State) : (afterRead s).writes = s.writes := by simp [afterRead]
@[simp] theorem afterRead_reads (s : State) : (afterRead s).reads = s.reads ++ [stateTimeout s] := by simp [afterRead]
@[simp] theorem afterRead_events (s : State) : (afterRead s).events = s.events ++ rxEvents s.seq (readNow s) := by simp [afterRead]
@[simp] theorem afterRead_calls (s : State) : (afterRead s).calls = s.calls := by simp [afterRead]
@[simp] theorem afterRead_answer (s : State) : (afterRead s).answer = s.answer := by simp [afterRead]
@[simp] theorem afterRead_tick (s : State) : (afterRead s).tick = s.tick + 2 := by simp [afterRead]

@[simp] theorem newSession_cfg (s : State) : (newSession s).cfg = s.cfg := rfl
@[simp] theorem newSession_src (s : State) : (newSession s).src = s.src := rfl
@[simp] theorem newSession_fsm (s : State) : (newSession s).fsm = .awaitStart := rfl
@[simp] theorem newSession_seq (s : State) : (newSession s).seq = 0 := rfl
@[simp] theorem newSession_crc (s : State) : (newSession s).crc = Config.freeCrc s.tick := rfl
@[simp] theorem newSession_pay (s : State) : (newSession s).pay = freePayload s.tick := by rw [newSession]
@[simp] theorem newSession_chunkLen (s : State) : (newSession s).chunkLen = 0 := rfl
@[simp] theorem newSession_retryCount (s : State) : (newSession s).retryCount = 0 := rfl
@[simp] theorem newSession_pollCount (s : State) : (newSession s).pollCount = 0 := rfl
@[simp] theorem newSession_filePos (s : State) : (newSession s).filePos = 0 := rfl
@[simp] theorem newSession_bytesSent (s : State) : (newSession s).bytesSent = 0 := rfl
@[simp] theorem newSession_blockIndex (s : State) : (newSession s).blockIndex = 0 := rfl
@[simp] theorem newSession_reason (s : State) : (newSession s).reason = none := rfl
@[simp] theorem newSession_cancelReq (s : State) : (newSession s).cancelReq = s.cancelReq := rfl
@[simp] theorem newSession_srcAnswers (s : State) : (newSession s).srcAnswers = s.srcAnswers := rfl
@[simp] theorem newSession_rx (s : State) : (newSession s).rx = s.rx := rfl
@[simp] theorem newSession_wrAnswers (s : State) : (newSession s).wrAnswers = s.wrAnswers := rfl
@[simp] theorem newSession_tx (s : State) : (newSession s).tx = s.tx := rfl
@[simp] theorem newSession_writes (s : State) : (newSession s).writes = s.writes := rfl
@[simp] theorem newSession_reads (s : State) : (newSession s).reads = s.reads := rfl
@[simp] theorem newSession_events (s : State) : (newSession s).events = s.events := rfl
@[simp] theorem newSession_calls (s : State) : (newSession s).calls = s.calls := rfl
@[simp] theorem newSession_answer (s : State) : (newSession s).answer = s.answer := rfl
@[simp] theorem newSession_tick (s : State) : (newSession s).tick = s.tick + 1 := rfl

@[simp] theorem countPoll_cfg (s : State) : (countPoll s).cfg = s.cfg := rfl
@[simp] theorem countPoll_src (s : State) : (countPoll s).src = s.src := rfl
@[simp] theorem countPoll_fsm (s : State) : (countPoll s).fsm = s.fsm := rfl
@[simp] theorem countPoll_seq (s : State) : (countPoll s).seq = s.seq := rfl
@[simp] theorem countPoll_crc (s : State) : (countPoll s).crc = s.crc := rfl
@[simp] theorem countPoll_pay (s : State) : (countPoll s).pay = s.pay := rfl
@[simp] theorem countPoll_chunkLen (s : State) : (countPoll s).chunkLen = s.chunkLen := rfl
@[simp] theorem countPoll_retryCount (s : State) : (countPoll s).retryCount = s.retryCount := rfl
@[simp] theorem countPoll_pollCount (s : State) : (countPoll s).pollCount = s.pollCount + 1 := rfl
@[simp] theorem countPoll_filePos (s : State) : (countPoll s).filePos = s.filePos := rfl
@[simp] theorem countPoll_bytesSent (s : State) : (countPoll s).bytesSent = s.bytesSent := rfl
@[simp] theorem countPoll_blockIndex (s : State) : (countPoll s).blockIndex = s.blockIndex := rfl
@[simp] theorem countPoll_reason (s : State) : (countPoll s).reason = s.reason := rfl
@[simp] theorem countPoll_cancelReq (s : State) : (countPoll s).cancelReq = s.cancelReq := rfl
@[simp] theorem countPoll_srcAnswers (s : State) : (countPoll s).srcAnswers = s.srcAnswers := rfl
@[simp] theorem countPoll_rx (s : State) : (countPoll s).rx = s.rx := rfl
@[simp] theorem countPoll_wrAnswers (s : State) : (countPoll s).wrAnswers = s.wrAnswers := rfl
@[simp] theorem countPoll_tx (s : State) : (countPoll s).tx = s.tx := rfl
@[simp] theorem countPoll_writes (s : State) : (countPoll s).writes = s.writes := rfl
@[simp] theorem countPoll_reads (s : State) : (countPoll s).reads = s.reads := rfl
@[simp] theorem countPoll_events (s : State) : (countPoll s).events = s.events := rfl
@[simp] theorem countPoll_calls (s : State) : (countPoll s).calls = s.calls := rfl
@[simp] theorem countPoll_answer (s : State) : (countPoll s).answer = s.answer := rfl
@[simp] theorem countPoll_tick (s : State) : (countPoll s).tick = s.tick := rfl

@[simp] theorem countRetry_cfg (s : State) : (countRetry s).cfg = s.cfg := rfl
@[simp] theorem countRetry_src (s : State) : (countRetry s).src = s.src := rfl
@[simp] theorem countRetry_fsm (s : State) : (countRetry s).fsm = s.fsm := rfl
@[simp] theorem countRetry_seq (s : State) : (countRetry s).seq = s.seq := rfl
@[simp] theorem countRetry_crc (s : State) : (countRetry s).crc = s.crc := rfl
@[simp] theorem countRetry_pay (s : State) : (countRetry s).pay = s.pay := rfl
@[simp] theorem countRetry_chunkLen (s : State) : (countRetry s).chunkLen = s.chunkLen := rfl
@[simp] theorem countRetry_retryCount (s : State) : (countRetry s).retryCount = s.retryCount + 1 := rfl
@[simp] theorem countRetry_pollCount (s : State) : (countRetry s).pollCount = s.pollCount := rfl
@[simp] theorem countRetry_filePos (s : State) : (countRetry s).filePos = s.filePos := rfl
@[simp] theorem countRetry_bytesSent (s : State) : (countRetry s).bytesSent = s.bytesSent := rfl
@[simp] theorem countRetry_blockIndex (s : State) : (countRetry s).blockIndex = s.blockIndex := rfl
@[simp] theorem countRetry_reason (s : State) : (countRetry s).reason = s.reason := rfl
@[simp] theorem countRetry_cancelReq (s : State) : (countRetry s).cancelReq = s.cancelReq := rfl
@[simp] theorem countRetry_srcAnswers (s : State) : (countRetry s).srcAnswers = s.srcAnswers := rfl
@[simp] theorem countRetry_rx (s : State) : (countRetry s).rx = s.rx := rfl
@[simp] theorem countRetry_wrAnswers (s : State) : (countRetry s).wrAnswers = s.wrAnswers := rfl
@[simp] theorem countRetry_tx (s : State) : (countRetry s).tx = s.tx := rfl
@[simp] theorem countRetry_writes (s : State) : (countRetry s).writes = s.writes := rfl
@[simp] theorem countRetry_reads (s : State) : (countRetry s).reads = s.reads := rfl
@[simp] theorem countRetry_events (s : State) : (countRetry s).events = s.events := rfl
@[simp] theorem countRetry_calls (s : State) : (countRetry s).calls = s.calls := rfl
@[simp] theorem countRetry_answer (s : State) : (countRetry s).answer = s.answer := rfl
@[simp] theorem countRetry_tick (s : State) : (countRetry s).tick = s.tick := rfl

@[simp] theorem advance_cfg (s : State) : (advance s).cfg = s.cfg := rfl
@[simp] theorem advance_src (s : State) : (advance s).src = s.src := rfl
@[simp] theorem advance_fsm (s : State) : (advance s).fsm = s.fsm := rfl
@[simp] theorem advance_seq (s : State) : (advance s).seq = nextSeq s.seq := rfl
@[simp] theorem advance_crc (s : State) : (advance s).crc = s.crc := rfl
@[simp] theorem advance_pay (s : State) : (advance s).pay = s.pay := rfl
@[simp] theorem advance_chunkLen (s : State) : (advance s).chunkLen = s.chunkLen := rfl
@[simp] theorem advance_retryCount (s : State) : (advance s).retryCount = s.retryCount := rfl
@[simp] theorem advance_pollCount (s : State) : (advance s).pollCount = s.pollCount := rfl
@[simp] theorem advance_filePos (s : State) : (advance s).filePos = s.filePos + s.chunkLen.toNat := rfl
@[simp] theorem advance_bytesSent (s : State) : (advance s).bytesSent = s.bytesSent + s.chunkLen.toNat := rfl
@[simp] theorem advance_blockIndex (s : State) : (advance s).blockIndex = s.blockIndex + 1 := rfl
@[simp] theorem advance_reason (s : State) : (advance s).reason = s.reason := rfl
@[simp] theorem advance_cancelReq (s : State) : (advance s).cancelReq = s.cancelReq := rfl
@[simp] theorem advance_srcAnswers (s : State) : (advance s).srcAnswers = s.srcAnswers := rfl
@[simp] theorem advance_rx (s : State) : (advance s).rx = s.rx := rfl
@[simp] theorem advance_wrAnswers (s : State) : (advance s).wrAnswers = s.wrAnswers := rfl
@[simp] theorem advance_tx (s : State) : (advance s).tx = s.tx := rfl
@[simp] theorem advance_writes (s : State) : (advance s).writes = s.writes := rfl
@[simp] theorem advance_reads (s : State) : (advance s).reads = s.reads := rfl
@[simp] theorem advance_events (s : State) : (advance s).events = s.events := rfl
@[simp] theorem advance_calls (s : State) : (advance s).calls = s.calls := rfl
@[simp] theorem advance_answer (s : State) : (advance s).answer = s.answer := rfl
@[simp] theorem advance_tick (s : State) : (advance s).tick = s.tick := rfl

@[simp] theorem afterFrameWrite_cfg (c : List Byte) (s : State) : (afterFrameWrite c s).cfg = s.cfg := by simp [afterFrameWrite]
@[simp] theorem afterFrameWrite_src (c : List Byte) (s : State) : (afterFrameWrite c s).src = s.src := by simp [afterFrameWrite]
@[simp] theorem afterFrameWrite_fsm (c : List Byte) (s : State) : (afterFrameWrite c s).fsm = s.fsm := by simp [afterFrameWrite]
@[simp] theorem afterFrameWrite_seq (c : List Byte) (s : State) : (afterFrameWrite c s).seq = s.seq := by simp [afterFrameWrite]
@[simp] theorem afterFrameWrite_crc (c : List Byte) (s : State) : (afterFrameWrite c s).crc = s.crc := by simp [afterFrameWrite]
@[simp] theorem afterFrameWrite_pay (c : List Byte) (s : State) : (afterFrameWrite c s).pay = s.pay := by simp [afterFrameWrite]
@[simp] theorem afterFrameWrite_chunkLen (c : List Byte) (s : State) : (afterFrameWrite c s).chunkLen = s.chunkLen := by simp [afterFrameWrite]
@[simp] theorem afterFrameWrite_retryCount (c : List Byte) (s : State) : (afterFrameWrite c s).retryCount = s.retryCount := by simp [afterFrameWrite]
@[simp] theorem afterFrameWrite_pollCount (c : List Byte) (s : State) : (afterFrameWrite c s).pollCount = s.pollCount := by simp [afterFrameWrite]
@[simp] theorem afterFrameWrite_filePos (c : List Byte) (s : State) : (afterFrameWrite c s).filePos = s.filePos := by simp [afterFrameWrite]
@[simp] theorem afterFrameWrite_bytesSent (c : List Byte) (s : State) : (afterFrameWrite c s).bytesSent = s.bytesSent := by simp [afterFrameWrite]
@[simp] theorem afterFrameWrite_blockIndex (c : List Byte) (s : State) : (afterFrameWrite c s).blockIndex = s.blockIndex := by simp [afterFrameWrite]
@[simp] theorem afterFrameWrite_reason (c : List Byte) (s : State) : (afterFrameWrite c s).reason = s.reason := by simp [afterFrameWrite]
@[simp] theorem afterFrameWrite_cancelReq (c : List Byte) (s : State) : (afterFrameWrite c s).cancelReq = s.cancelReq.tail := by simp [afterFrameWrite]
@[simp] theorem afterFrameWrite_srcAnswers (c : List Byte) (s : State) : (afterFrameWrite c s).srcAnswers = s.srcAnswers.tail := by simp [afterFrameWrite]
@[simp] theorem afterFrameWrite_rx (c : List Byte) (s : State) : (afterFrameWrite c s).rx = s.rx := by simp [afterFrameWrite]
@[simp] theorem afterFrameWrite_wrAnswers (c : List Byte) (s : State) : (afterFrameWrite c s).wrAnswers = s.wrAnswers.tail := by simp [afterFrameWrite]
@[simp] theorem afterFrameWrite_writes (c : List Byte) (s : State) : (afterFrameWrite c s).writes = s.writes ++ [frameOf c s] := by simp [afterFrameWrite]
@[simp] theorem afterFrameWrite_reads (c : List Byte) (s : State) : (afterFrameWrite c s).reads = s.reads := by simp [afterFrameWrite]
@[simp] theorem afterFrameWrite_events (c : List Byte) (s : State) : (afterFrameWrite c s).events = s.events := by simp [afterFrameWrite]
@[simp] theorem afterFrameWrite_calls (c : List Byte) (s : State) : (afterFrameWrite c s).calls = s.calls := by simp [afterFrameWrite]
@[simp] theorem afterFrameWrite_answer (c : List Byte) (s : State) : (afterFrameWrite c s).answer = s.answer := by simp [afterFrameWrite]
@[simp] theorem afterFrameWrite_tick (c : List Byte) (s : State) : (afterFrameWrite c s).tick = s.tick + 3 := by simp [afterFrameWrite]

@[simp] theorem transmitted_cfg (c : List Byte) (s u : State) : (transmitted c s u).cfg = u.cfg := rfl
@[simp] theorem transmitted_src (c : List Byte) (s u : State) : (transmitted c s u).src = u.src := rfl
@[simp] theorem transmitted_fsm (c : List Byte) (s u : State) : (transmitted c s u).fsm = .awaitAck := rfl
@[simp] theorem transmitted_seq (c : List Byte) (s u : State) : (transmitted c s u).seq = u.seq := rfl
@[simp] theorem transmitted_crc (c : List Byte) (s u : State) : (transmitted c s u).crc = computeCrc (payloadOf c s) := rfl
@[simp] theorem transmitted_pay (c : List Byte) (s u : State) : (transmitted c s u).pay = u.pay := rfl
@[simp] theorem transmitted_chunkLen (c : List Byte) (s u : State) : (transmitted c s u).chunkLen = BitVec.ofNat 8 c.length := rfl
@[simp] theorem transmitted_retryCount (c : List Byte) (s u : State) : (transmitted c s u).retryCount = 0 := rfl
@[simp] theorem transmitted_pollCount (c : List Byte) (s u : State) : (transmitted c s u).pollCount = u.pollCount := rfl
@[simp] theorem transmitted_filePos (c : List Byte) (s u : State) : (transmitted c s u).filePos = u.filePos := rfl
@[simp] theorem transmitted_bytesSent (c : List Byte) (s u : State) : (transmitted c s u).bytesSent = u.bytesSent := rfl
@[simp] theorem transmitted_blockIndex (c : List Byte) (s u : State) : (transmitted c s u).blockIndex = u.blockIndex := rfl
@[simp] theorem transmitted_reason (c : List Byte) (s u : State) : (transmitted c s u).reason = u.reason := rfl
@[simp] theorem transmitted_cancelReq (c : List Byte) (s u : State) : (transmitted c s u).cancelReq = u.cancelReq := rfl
@[simp] theorem transmitted_srcAnswers (c : List Byte) (s u : State) : (transmitted c s u).srcAnswers = u.srcAnswers := rfl
@[simp] theorem transmitted_rx (c : List Byte) (s u : State) : (transmitted c s u).rx = u.rx := rfl
@[simp] theorem transmitted_wrAnswers (c : List Byte) (s u : State) : (transmitted c s u).wrAnswers = u.wrAnswers := rfl
@[simp] theorem transmitted_tx (c : List Byte) (s u : State) : (transmitted c s u).tx = u.tx := rfl
@[simp] theorem transmitted_writes (c : List Byte) (s u : State) : (transmitted c s u).writes = u.writes := rfl
@[simp] theorem transmitted_reads (c : List Byte) (s u : State) : (transmitted c s u).reads = u.reads := rfl
@[simp] theorem transmitted_events (c : List Byte) (s u : State) : (transmitted c s u).events = u.events ++ [evTrans s.seq s.fsm .awaitAck .none] := rfl
@[simp] theorem transmitted_calls (c : List Byte) (s u : State) : (transmitted c s u).calls = u.calls := rfl
@[simp] theorem transmitted_answer (c : List Byte) (s u : State) : (transmitted c s u).answer = u.answer := rfl
@[simp] theorem transmitted_tick (c : List Byte) (s u : State) : (transmitted c s u).tick = u.tick := rfl

/-- `TX` after a write that returned `Ok` (R67). -/
theorem writeChannel_tx_ok {bs : List Byte} {s : State} (h : (writeChannel bs s).1 = .ok) :
    (writeChannel bs s).2.tx = s.tx ++ bs := by
  unfold writeChannel at h ⊢; split at h <;> simp_all

/-- `TX` after a write that returned `IoError`: some prefix (R67). -/
theorem writeChannel_tx_error {bs : List Byte} {s : State} (h : (writeChannel bs s).1 = .ioError) :
    (writeChannel bs s).2.tx = s.tx ++ bs.take (Config.freePartial s.tick) := by
  unfold writeChannel at h ⊢; split at h <;> simp_all

/-- In either case `TX` only grows. -/
theorem writeChannel_tx (bs : List Byte) (s : State) : ∃ n, (writeChannel bs s).2.tx = s.tx ++ bs.take n := by
  cases h : (writeChannel bs s).1 with
  | ok => exact ⟨bs.length, by rw [writeChannel_tx_ok h, List.take_length]⟩
  | ioError => exact ⟨_, writeChannel_tx_error h⟩

end Sys2Proof.Machine
end

