-- ==== Sys2Proof/Laws/Ops.lean ====
section
/-! SUPPORT. Sys2Proof/Laws/Ops.lean: for each shared operation, what it can do: when a transition of one shape runs and
what it then answers, the tests on answers in the spec's own terms, and the lengths of chunk, payload and frame. -/

namespace Sys2Proof.Machine

/-! ### Tests on a read's answer -/

theorem isStim_ack (a : ReadAnswer) : isStim .ack a = true ↔ a = .byte 0x06 := by
  cases a <;> simp [isStim, stimulus]
  rename_i b; unfold classify ackByte nakByte canByte startByte; split_ifs <;> simp_all [classStimulus]

theorem isStim_can (a : ReadAnswer) : isStim .can a = true ↔ a = .byte 0x18 := by
  cases a <;> simp [isStim, stimulus]
  rename_i b; unfold classify ackByte nakByte canByte startByte; split_ifs <;> simp_all [classStimulus]

theorem isStim_start (a : ReadAnswer) : isStim .start a = true ↔ a = .byte 0x43 := by
  cases a <;> simp [isStim, stimulus]
  rename_i b; unfold classify ackByte nakByte canByte startByte; split_ifs <;> simp_all [classStimulus]

theorem isIoError_iff (a : ReadAnswer) : isIoError a = true ↔ a = .ioError := by simp [isIoError]

theorem isNakTimeoutOther_iff (a : ReadAnswer) : isNakTimeoutOther a = true ↔ NakTimeoutOther a := by
  cases a <;> simp [isNakTimeoutOther, NakTimeoutOther, stimulus]
  rename_i b; unfold classify ackByte nakByte canByte startByte; split_ifs <;> simp_all [classStimulus]

/-- Every answer is exactly one of the five a reading state tells apart (R220). -/
theorem answer_cases (a : ReadAnswer) :
    a = .byte 0x06 ∨ a = .byte 0x18 ∨ a = .byte 0x43 ∨ NakTimeoutOther a ∨ a = .ioError := by
  cases a with
  | timeout => exact .inr (.inr (.inr (.inl (.inl rfl))))
  | ioError => exact .inr (.inr (.inr (.inr rfl)))
  | byte b =>
    by_cases h1 : b = 0x06
    · exact .inl (h1 ▸ rfl)
    by_cases h2 : b = 0x18
    · exact .inr (.inl (h2 ▸ rfl))
    by_cases h3 : b = 0x43
    · exact .inr (.inr (.inl (h3 ▸ rfl)))
    · exact .inr (.inr (.inr (.inl (.inr ⟨b, rfl, h1, h2, h3⟩))))

@[simp] theorem rxEvents_timeout (q : Byte) : rxEvents q .timeout = [] := rfl
@[simp] theorem rxEvents_ioError (q : Byte) : rxEvents q .ioError = [] := rfl
@[simp] theorem rxEvents_byte (q b : Byte) : rxEvents q (.byte b) = [evRx q b] := rfl

/-! ### The channel -/

/-- One `ChRead` asks once and takes the answer that stands first; nothing is written (R66). -/
theorem readChannel_once (n : Nat) (s : State) :
    ReadOnce n s (readChannel n s).2 ∧ NoWrite s (readChannel n s).2 := ⟨⟨rfl, rfl⟩, rfl, rfl, rfl⟩

/-- One `ChWrite` either returns `Ok` and all of `bs` is in `TX`, or returns `IoError` after some prefix of it (R67). -/
theorem writeChannel_cases (bs : List Byte) (s : State) :
    ((writeChannel bs s).1 = .ok ∧ WroteOnce bs s (writeChannel bs s).2) ∨
      ((writeChannel bs s).1 = .ioError ∧ WriteFailed bs s (writeChannel bs s).2) := by
  cases h : (writeChannel bs s).1 with
  | ok => exact .inl ⟨rfl, by simp [WroteOnce, writeChannel_tx_ok h]⟩
  | ioError => exact .inr ⟨rfl, by simp, ⟨_, writeChannel_tx_error h⟩, by simp⟩

/-- A `ChWrite` reads nothing (R67). -/
theorem writeChannel_noRead (bs : List Byte) (s : State) : NoRead s (writeChannel bs s).2 := by simp [NoRead]

/-! ### The shapes of a transition -/

theorem onRead_next {st : Fsm} {p : ReadAnswer → Bool} {k : State → State} {s t : State} :
    onRead st p k s = .next t ↔
      (s.fsm = st ∧ cancelNow s = false ∧ p (readNow s) = true) ∧ t = k (afterRead s) := by
  unfold onRead
  split_ifs with h
  · exact ⟨fun e => ⟨h, (Host.Outcome.next.inj e).symm⟩, fun e => congrArg _ e.2.symm⟩
  · exact ⟨fun e => (nomatch e), fun e => absurd e.1 h⟩

theorem onRead_runs {st : Fsm} {p : ReadAnswer → Bool} {k : State → State} {s : State}
    (hs : s.fsm = st) (hc : cancelNow s = false) (hp : p (readNow s) = true) :
    onRead st p k s = .next (k (afterRead s)) := if_pos ⟨hs, hc, hp⟩

theorem onRead_refuses {st : Fsm} {p : ReadAnswer → Bool} {k : State → State} {s : State}
    (hp : p (readNow s) = false) : onRead st p k s = .refused .rowDoesNotApply :=
  if_neg fun h => by simp [hp] at h

theorem onWrite_next {st : Fsm} {bs : List Byte} {res : WriteResult} {k : State → State} {s t : State} :
    onWrite st bs res k s = .next t ↔
      (s.fsm = st ∧ cancelNow s = false ∧ (writeChannel bs (afterCancel s)).1 = res) ∧
        t = k (writeChannel bs (afterCancel s)).2 := by
  unfold onWrite
  split_ifs with h
  · exact ⟨fun e => ⟨h, (Host.Outcome.next.inj e).symm⟩, fun e => congrArg _ e.2.symm⟩
  · exact ⟨fun e => (nomatch e), fun e => absurd e.1 h⟩

theorem onWrite_runs {st : Fsm} {bs : List Byte} {res : WriteResult} {k : State → State} {s : State}
    (hs : s.fsm = st) (hc : cancelNow s = false) (hw : (writeChannel bs (afterCancel s)).1 = res) :
    onWrite st bs res k s = .next (k (writeChannel bs (afterCancel s)).2) := if_pos ⟨hs, hc, hw⟩

theorem onWrite_refuses {st : Fsm} {bs : List Byte} {res : WriteResult} {k : State → State} {s : State}
    (hw : (writeChannel bs (afterCancel s)).1 ≠ res) : onWrite st bs res k s = .refused .rowDoesNotApply :=
  if_neg fun h => hw h.2.2

/-- A row whose meaning is a reading transition, named by its equation (Sys2Proof/Laws/Exec.lean): it runs. -/
theorem exec_of_onRead {i : Instr} {st : Fsm} {p : ReadAnswer → Bool} {k : State → State} {s : State}
    (he : exec i s = onRead st p k s) (hs : s.fsm = st) (hc : cancelNow s = false) (hp : p (readNow s) = true) :
    exec i s = .next (k (afterRead s)) := he.trans (onRead_runs hs hc hp)

/-- A row whose meaning is a writing transition, named by its equation: it runs. -/
theorem exec_of_onWrite {i : Instr} {st : Fsm} {bs : List Byte} {res : WriteResult} {k : State → State} {s : State}
    (he : exec i s = onWrite st bs res k s) (hs : s.fsm = st) (hc : cancelNow s = false)
    (hw : (writeChannel bs (afterCancel s)).1 = res) :
    exec i s = .next (k (writeChannel bs (afterCancel s)).2) := he.trans (onWrite_runs hs hc hw)

theorem onChunk_next {k : List Byte → Out} {s t : State} :
    onChunk k s = .next t ↔
      s.fsm = .sendBlock ∧ cancelNow s = false ∧ ∃ c, sourceNow s = .chunk c ∧ k c = .next t := by
  unfold onChunk
  split_ifs with h
  · cases hs : sourceNow s <;> simp [h]
  · simp only [false_iff]; rintro ⟨h1, h2, -⟩; exact h ⟨h1, h2⟩

theorem onChunk_runs {k : List Byte → Out} {s : State} {c : List Byte} (hs : s.fsm = .sendBlock)
    (hc : cancelNow s = false) (hr : sourceNow s = .chunk c) : onChunk k s = k c := by
  unfold onChunk; rw [if_pos ⟨hs, hc⟩, hr]

theorem onCancel_next {p : Fsm → Bool} {s t : State} :
    onCancel p s = .next t ↔
      (p s.fsm = true ∧ cancelNow s = true) ∧ t = raiseFailed s .cancelledLocally (afterCancel s) := by
  unfold onCancel
  split_ifs with h
  · exact ⟨fun e => ⟨h, (Host.Outcome.next.inj e).symm⟩, fun e => congrArg _ e.2.symm⟩
  · exact ⟨fun e => (nomatch e), fun e => absurd e.1 h⟩

/-! ### Chunk, payload and frame -/

theorem sourceNow_chunk {s : State} {c : List Byte} (h : sourceNow s = .chunk c) :
    c = (s.src.drop s.filePos).take 128 := by
  unfold sourceNow readSource at h
  revert h
  cases (afterCancel s).srcAnswers.headD (Config.freeSource (afterCancel s).tick) <;>
    simp +contextual [blockLen, eq_comm]

theorem sourceNow_length {s : State} {c : List Byte} (h : sourceNow s = .chunk c) : c.length ≤ blockLen := by
  rw [sourceNow_chunk h]; simp [blockLen]

theorem padChunk_length {pad : Byte} {c : List Byte} (h : c.length ≤ blockLen) :
    (padChunk pad c).length = blockLen := by simp [padChunk]; omega

/-- Padding a full payload adds nothing (R161, R164). -/
theorem padChunk_full {pad : Byte} {c : List Byte} (h : c.length = blockLen) : padChunk pad c = c := by
  simp [padChunk, h]

theorem frameBytes_length {pad q : Byte} {c : List Byte} (h : c.length ≤ blockLen) :
    (frameBytes pad q c).length = frameLen := by
  simp [frameBytes, layFrame, padChunk_length h, blockLen, frameLen]

theorem readPay_full (s : State) : readPay 0 blockLen s = some (cachedPayload s) := by
  simp [readPay, cachedPayload]

theorem writePay_full {v : List Byte} {s : State} (h : v.length = blockLen) :
    writePay 0 v s = some { s with pay := writeBytes s.pay 0 v } := by
  simp [writePay, h]

/-- The state a first transmission answers (R190). -/
theorem transmitChunk_runs {c : List Byte} {s : State} (hw : frameWriteNow c s = .ok) (hc : c.length ≤ blockLen) :
    transmitChunk c s = .next (transmitted c s
      { emit (evTx s.seq 133) (afterFrameWrite c s) with pay := writeBytes s.pay 0 (payloadOf c s) }) := by
  unfold transmitChunk
  rw [if_pos hw, writePay_full (show (payloadOf c s).length = blockLen from padChunk_length hc)]
  simp

theorem transmitChunk_next {c : List Byte} {s t : State} (hc : c.length ≤ blockLen) :
    transmitChunk c s = .next t ↔
      frameWriteNow c s = .ok ∧ t = transmitted c s
        { emit (evTx s.seq 133) (afterFrameWrite c s) with pay := writeBytes s.pay 0 (payloadOf c s) } := by
  by_cases hw : frameWriteNow c s = .ok
  · rw [transmitChunk_runs hw hc]; simp [hw, eq_comm]
  · simp [transmitChunk, hw]

theorem memoryWf_freePayload (n : Nat) : memoryWf (freePayload n) = true := by
  unfold freePayload; exact memoryWf_writeBytes rfl (by simp [blockLen])

theorem frameWriteNow_tx_ok {c : List Byte} {s : State} (h : frameWriteNow c s = .ok) :
    (afterFrameWrite c s).tx = s.tx ++ frameOf c s := by
  unfold afterFrameWrite; rw [writeChannel_tx_ok h]; rfl

theorem frameWriteNow_tx_error {c : List Byte} {s : State} (h : frameWriteNow c s = .ioError) :
    ∃ n, (afterFrameWrite c s).tx = s.tx ++ (frameOf c s).take n := by
  unfold afterFrameWrite; exact ⟨_, by rw [writeChannel_tx_error h]; rfl⟩

end Sys2Proof.Machine
end

