-- ==== Sys2Proof/Laws/Keys.lean ====
section
/-! SUPPORT. Sys2Proof/Laws/Keys.lean: what the key table decodes: the row of every key a step can form, and what fetch and
a step do. -/

namespace Sys2Proof.Machine

theorem decodeKey_cancel (st : Fsm) (h : isTerminal st = false) :
    decodeKey (mkKey true false st .none false false) =
      .ok (if (stateCode st).getLsbD 2 then .cancelHi else .cancel) := by
  cases st <;> first | rfl | exact absurd h (by decide)

theorem decodeKey_ioError (st : Fsm) :
    decodeKey (mkKey false true st .none false false) =
      .ok (match st with
        | .awaitStart => .startIoerr
        | .sendBlock => .blockIoerr
        | .awaitAck => .ackIoerr
        | .retry => .retryIoerr
        | .sendEot => .eotIoerr
        | .awaitEotAck => .eotackIoerr
        | .done => .haltDone
        | .failed => .haltFailed) := by
  cases st <;> rfl

theorem decodeKey_start (m : Stimulus) (hm : m ≠ .none) (c0 : Bool) :
    decodeKey (mkKey false false .awaitStart m false c0) =
      .ok (match m, c0 with
        | .start, _ => .startGo
        | .can, _ => .startCan
        | .ack, false => .startPollAck
        | .ack, true => .startExhaustAck
        | _, false => .startPoll
        | _, true => .startExhaust) := by
  cases m <;> cases c0 <;> first | rfl | exact absurd rfl hm

theorem decodeKey_ack (m : Stimulus) (hm : m ≠ .none) (c0 : Bool) :
    decodeKey (mkKey false false .awaitAck m false c0) =
      .ok (match m, c0 with
        | .ack, _ => .ackAdv
        | .can, _ => .ackCan
        | .start, false => .ackRetryC
        | .start, true => .ackExhaustC
        | _, false => .ackRetry
        | _, true => .ackExhaust) := by
  cases m <;> cases c0 <;> first | rfl | exact absurd rfl hm

theorem decodeKey_eotAck (m : Stimulus) (hm : m ≠ .none) (c0 : Bool) :
    decodeKey (mkKey false false .awaitEotAck m false c0) =
      .ok (match m, c0 with
        | .ack, _ => .eotackDone
        | .can, _ => .eotackCan
        | .start, false => .eotackRetryC
        | .start, true => .eotackExhaustC
        | _, false => .eotackRetry
        | _, true => .eotackExhaust) := by
  cases m <;> cases c0 <;> first | rfl | exact absurd rfl hm

theorem decodeKey_send (c1 : Bool) : decodeKey (mkKey false false .sendBlock .none c1 false) = .ok .blockSend := by
  cases c1 <;> rfl

theorem decodeKey_sendEmpty : decodeKey (mkKey false false .sendBlock .none true true) = .ok .blockSendEmpty := rfl

theorem decodeKey_eof : decodeKey (mkKey false false .sendBlock .none false true) = .ok .blockEof := rfl

theorem decodeKey_retry : decodeKey (mkKey false false .retry .none false false) = .ok .retrySend := rfl

theorem decodeKey_eot : decodeKey (mkKey false false .sendEot .none false false) = .ok .eotSend := rfl

theorem decodeKey_done : decodeKey (mkKey false false .done .none false false) = .ok .haltDone := rfl

theorem decodeKey_failed : decodeKey (mkKey false false .failed .none false false) = .ok .haltFailed := rfl

/-- A step with no call waiting runs the transition its key selects. -/
theorem step_transition {s : State} (hc : s.calls = []) (hl : legalConfig s = true) :
    step s = runCall (.fsmKey (transitionKey s)) s := by
  simp [step, fetch, hc, hl]

/-- A step with a call waiting takes the oldest and runs it. -/
theorem step_call {s : State} {c : Call} {cs : List Call} (hc : s.calls = c :: cs) :
    step s = runCall c { s with calls := cs } := by
  simp [step, fetch, hc]

/-- What a step that answers a next state ran. -/
theorem step_next {s t : State} (h : step s = .next t) :
    ∃ i u, i.wellFormed = true ∧ exec i u = .next t ∧
      ((s.calls = [] ∧ u = s ∧ decode (.fsmKey (transitionKey s)) = .ok i) ∨
        ∃ c cs, s.calls = c :: cs ∧ u = { s with calls := cs } ∧ decode c = .ok i) := by
  cases hc : s.calls with
  | nil =>
    cases hl : legalConfig s with
    | false => simp [step, fetch, hc, hl] at h
    | true =>
      rw [step_transition hc hl, runCall] at h
      cases hd : decode (.fsmKey (transitionKey s)) with
      | error e => simp [hd] at h
      | ok i =>
        simp only [hd] at h
        split_ifs at h with hw
        exact ⟨i, s, hw, h, .inl ⟨rfl, rfl, rfl⟩⟩
  | cons c cs =>
    rw [step_call hc, runCall] at h
    cases hd : decode c with
    | error e => simp [hd] at h
    | ok i =>
      simp only [hd] at h
      split_ifs at h with hw
      exact ⟨i, _, hw, h, .inr ⟨c, cs, rfl, rfl, hd⟩⟩

end Sys2Proof.Machine
end

