-- ==== Sys2Proof/Laws/PerInstr.lean ====
section
/-! SUPPORT. Sys2Proof/Laws/PerInstr.lean: per instruction, that the encoder writes a word of that instruction's own row of
spec/opcode_table.json: the row's format, and the row's match value under the row's mask. -/

namespace Sys2Proof.Laws.TableRow

/-- A received byte equal to `bits` under `mask`. -/
def rxWord (bits mask : Byte) : Call → Bool
  | .rxByte b => b &&& mask == bits
  | .txByte _ | .txFrame _ | .op _ _ | .fsmKey _ => false

/-- A transmitted byte equal to `bits` under `mask`. -/
def txWord (bits mask : Byte) : Call → Bool
  | .txByte b => b &&& mask == bits
  | .rxByte _ | .txFrame _ | .op _ _ | .fsmKey _ => false

/-- An operation selector equal to `bits` under `mask`. -/
def opWord (bits mask : BitVec 4) : Call → Bool
  | .op sel _ => sel &&& mask == bits
  | .rxByte _ | .txByte _ | .txFrame _ | .fsmKey _ => false

/-- A transition key equal to `bits` under `mask`. -/
def keyWord (bits mask : BitVec 10) : Call → Bool
  | .fsmKey k => k &&& mask == bits
  | .rxByte _ | .txByte _ | .txFrame _ | .op _ _ => false

/-- 133 bytes of which the first is 0x01 and the third the complement of the second (R101). -/
def frameWord : Call → Bool
  | .txFrame (soh :: s :: cmpl :: rest) => soh == 0x01 && cmpl == 255 - s && rest.length == 130
  | .txFrame _ | .rxByte _ | .txByte _ | .op _ _ | .fsmKey _ => false

/-- The words of an instruction's row. `RX.OTHER` is the default row: its mask is 0 and no exact row may match. -/
def rowOf : Instr → Call → Bool
  | .rxAck => rxWord 0x06 0xFF
  | .rxNak => rxWord 0x15 0xFF
  | .rxCan => rxWord 0x18 0xFF
  | .rxStart => rxWord 0x43 0xFF
  | .rxOther _ => fun w => rxWord 0x00 0x00 w
      && !(rxWord 0x06 0xFF w || rxWord 0x15 0xFF w || rxWord 0x18 0xFF w || rxWord 0x43 0xFF w)
  | .txFrame _ _ _ _ _ => frameWord
  | .txEot => txWord 0x04 0xFF
  | .crcInit => opWord 0x0 0xF
  | .crcRound => opWord 0x1 0xF
  | .crcByte _ => opWord 0x2 0xF
  | .crcBlock _ => opWord 0x3 0xF
  | .frPad _ => opWord 0x4 0xF
  | .frCmpl _ => opWord 0x5 0xF
  | .frFrame _ _ => opWord 0x6 0xF
  | .srcRead _ _ => opWord 0x7 0xF
  | .chRead _ => opWord 0x8 0xF
  | .chWrite _ => opWord 0x9 0xF
  | .reset => opWord 0xA 0xF
  | .evtEmit _ => opWord 0xB 0xF
  | .cancel => keyWord 0x200 0x280
  | .cancelHi => keyWord 0x280 0x2C0
  | .haltDone => keyWord 0x0C0 0x0E0
  | .haltFailed => keyWord 0x0E0 0x0E0
  | .startGo => keyWord 0x00C 0x3FC
  | .startCan => keyWord 0x008 0x3FC
  | .startIoerr => keyWord 0x100 0x3E0
  | .startPoll => keyWord 0x010 0x3F1
  | .startPollAck => keyWord 0x004 0x3FD
  | .startExhaust => keyWord 0x011 0x3F1
  | .startExhaustAck => keyWord 0x005 0x3FD
  | .blockSend => keyWord 0x020 0x3FD
  | .blockSendEmpty => keyWord 0x023 0x3FF
  | .blockEof => keyWord 0x021 0x3FF
  | .blockIoerr => keyWord 0x120 0x3E0
  | .ackAdv => keyWord 0x044 0x3FC
  | .ackCan => keyWord 0x048 0x3FC
  | .ackRetry => keyWord 0x050 0x3F1
  | .ackRetryC => keyWord 0x04C 0x3FD
  | .ackExhaust => keyWord 0x051 0x3F1
  | .ackExhaustC => keyWord 0x04D 0x3FD
  | .ackIoerr => keyWord 0x140 0x3E0
  | .retrySend => keyWord 0x060 0x3FC
  | .retryIoerr => keyWord 0x160 0x3E0
  | .eotSend => keyWord 0x080 0x3FC
  | .eotIoerr => keyWord 0x180 0x3E0
  | .eotackDone => keyWord 0x0A4 0x3FC
  | .eotackCan => keyWord 0x0A8 0x3FC
  | .eotackRetry => keyWord 0x0B0 0x3F1
  | .eotackRetryC => keyWord 0x0AC 0x3FD
  | .eotackExhaust => keyWord 0x0B1 0x3F1
  | .eotackExhaustC => keyWord 0x0AD 0x3FD
  | .eotackIoerr => keyWord 0x1A0 0x3E0

/-- The encoding of a well-formed instruction is a word of its row. -/
def Statement (i : Instr) : Prop := i.wellFormed = true → rowOf i (encode i) = true

theorem rxAck : Statement .rxAck := fun _ => rfl
theorem rxNak : Statement .rxNak := fun _ => rfl
theorem rxCan : Statement .rxCan := fun _ => rfl
theorem rxStart : Statement .rxStart := fun _ => rfl
theorem rxOther (b : Byte) : Statement (.rxOther b) := by
  revert b; unfold Statement; decide
theorem txFrame (seq cmpl : Byte) (payload : List Byte) (hi lo : Byte) : Statement (.txFrame seq cmpl payload hi lo) := by
  intro h
  simp only [Instr.wellFormed, Bool.and_eq_true, decide_eq_true_eq] at h
  simp [rowOf, encode, Machine.layFrame, frameWord, Machine.sohByte, h.1.1.1, h.1.1.2, Machine.seqCmpl, Machine.blockLen]
theorem txEot : Statement .txEot := fun _ => rfl
theorem crcInit : Statement .crcInit := fun _ => rfl
theorem crcRound : Statement .crcRound := fun _ => rfl
theorem crcByte (b : Byte) : Statement (.crcByte b) := fun _ => rfl
theorem crcBlock (payload : List Byte) : Statement (.crcBlock payload) := fun _ => rfl
theorem frPad (c : List Byte) : Statement (.frPad c) := fun _ => rfl
theorem frCmpl (seq : Byte) : Statement (.frCmpl seq) := fun _ => rfl
theorem frFrame (seq : Byte) (c : List Byte) : Statement (.frFrame seq c) := fun _ => rfl
theorem srcRead (pos count : Nat) : Statement (.srcRead pos count) := fun _ => rfl
theorem chRead (t : Nat) : Statement (.chRead t) := fun _ => rfl
theorem chWrite (bs : List Byte) : Statement (.chWrite bs) := fun _ => rfl
theorem reset : Statement .reset := fun _ => rfl
theorem evtEmit (e : Event) : Statement (.evtEmit e) := fun _ => rfl
theorem cancel : Statement .cancel := fun _ => rfl
theorem cancelHi : Statement .cancelHi := fun _ => rfl
theorem haltDone : Statement .haltDone := fun _ => rfl
theorem haltFailed : Statement .haltFailed := fun _ => rfl
theorem startGo : Statement .startGo := fun _ => rfl
theorem startCan : Statement .startCan := fun _ => rfl
theorem startIoerr : Statement .startIoerr := fun _ => rfl
theorem startPoll : Statement .startPoll := fun _ => rfl
theorem startPollAck : Statement .startPollAck := fun _ => rfl
theorem startExhaust : Statement .startExhaust := fun _ => rfl
theorem startExhaustAck : Statement .startExhaustAck := fun _ => rfl
theorem blockSend : Statement .blockSend := fun _ => rfl
theorem blockSendEmpty : Statement .blockSendEmpty := fun _ => rfl
theorem blockEof : Statement .blockEof := fun _ => rfl
theorem blockIoerr : Statement .blockIoerr := fun _ => rfl
theorem ackAdv : Statement .ackAdv := fun _ => rfl
theorem ackCan : Statement .ackCan := fun _ => rfl
theorem ackRetry : Statement .ackRetry := fun _ => rfl
theorem ackRetryC : Statement .ackRetryC := fun _ => rfl
theorem ackExhaust : Statement .ackExhaust := fun _ => rfl
theorem ackExhaustC : Statement .ackExhaustC := fun _ => rfl
theorem ackIoerr : Statement .ackIoerr := fun _ => rfl
theorem retrySend : Statement .retrySend := fun _ => rfl
theorem retryIoerr : Statement .retryIoerr := fun _ => rfl
theorem eotSend : Statement .eotSend := fun _ => rfl
theorem eotIoerr : Statement .eotIoerr := fun _ => rfl
theorem eotackDone : Statement .eotackDone := fun _ => rfl
theorem eotackCan : Statement .eotackCan := fun _ => rfl
theorem eotackRetry : Statement .eotackRetry := fun _ => rfl
theorem eotackRetryC : Statement .eotackRetryC := fun _ => rfl
theorem eotackExhaust : Statement .eotackExhaust := fun _ => rfl
theorem eotackExhaustC : Statement .eotackExhaustC := fun _ => rfl
theorem eotackIoerr : Statement .eotackIoerr := fun _ => rfl

end Sys2Proof.Laws.TableRow
end

