-- ==== Sys2Proof/Machine/Scenario.lean ====
section
/-! DEFINITION. Sys2Proof/Machine/Scenario.lean: the scenario notation of R115, the block's counterpart of a program: each
line as data, and the state from which the steps of a scenario run, its answers in the queues of the environment. The
`expect` lines are claims about a run and have no constructor. -/

namespace Sys2Proof.Machine

/-- A line of a scenario (R115). -/
inductive ScenarioLine where
  | params (c : Params)            -- the `param NAME=value` lines, as the parameters they give
  | srcHex (bs : List Byte)
  | srcZeros (n : Nat)
  | srcRamp (n : Nat)
  | reset
  | rx (a : ReadAnswer) (k : Nat)  -- `rx <item> *k`
  | wrIoerr (k : Nat)              -- the `k`-th write returns `IoError`
  | cancelAt (k : Nat)             -- set when sampled at step `k` and at every later step
deriving DecidableEq, Repr

/-- Byte `i` of `src ramp(n)` is `i mod 256` (R115). -/
def rampBytes (n : Nat) : List Byte := (List.range n).map (BitVec.ofNat 8)

/-- The levels of `cancel @k` over a run of `n` steps. -/
def cancelFrom (k n : Nat) : List Bool := (List.range n).map fun i => decide (k ≤ i + 1)

/-- What a line does to the state a scenario starts from, for a run of at most `n` steps. -/
def placeLine (n : Nat) (s : State) : ScenarioLine → State
  | .params c => { s with cfg := c }
  | .srcHex bs => { s with src := bs }
  | .srcZeros k => { s with src := List.replicate k 0x00 }
  | .srcRamp k => { s with src := rampBytes k }
  | .reset => newSession s
  | .rx a k => { s with rx := s.rx ++ List.replicate k a }
  | .wrIoerr k => { s with wrAnswers := s.wrAnswers.set (k - 1) .error }
  | .cancelAt k => { s with cancelReq := cancelFrom k n }

/-- The state a scenario of at most `n` steps starts from: every write, source read and sampling is answered, with `Ok`,
`Ok` and 0 unless a line says otherwise (R115). -/
def scenario (n : Nat) (lines : List ScenarioLine) : State :=
  lines.foldl (placeLine n)
    { State.reset with
      cancelReq := List.replicate n false
      srcAnswers := List.replicate n .ok
      wrAnswers := List.replicate n .full }

end Sys2Proof.Machine
end

