-- ==== Sys2Proof/Tests/Slice0.lean ====
section
/-! SUPPORT. Sys2Proof/Tests/Slice0.lean: tests of the model against the derived vectors of spec/95_test_vectors.md and
spec/96_test_vectors_fsm.md and the spec's encoding tables; the numbers are the spec's. Sys2Proof/Tests/Witness.lean holds
a state for every statement with hypotheses. -/

namespace Sys2Proof.Tests

-- one theorem after another: each one checked at the same time takes a thread's whole stack out of the memory limit
set_option Elab.async false

open Sys2Proof.Machine

/-- The source of the vectors, "hello". -/
def hello : List Byte := [0x68, 0x65, 0x6C, 0x6C, 0x6F]

/-- "hello" padded with 0x1A (VF8). -/
def helloPadded : List Byte := hello ++ List.replicate 123 0x1A

/-- Its frame with number 1 (VF10). -/
def helloFrame : List Byte := [0x01, 0x01, 0xFE] ++ helloPadded ++ [0x74, 0x90]

/-- The state before a vector of spec/96: MAX_RETRIES 16, MAX_START_POLLS 3, source "hello", the request not set, every
write and source read answered `Ok`, the next read answering `a`. -/
def before (f : Fsm) (seq : Byte) (a : ReadAnswer) : State :=
  { State.reset with
    cfg := { Params.standard with maxStartPolls := 3 }
    src := hello, fsm := f, seq := seq
    cancelReq := [false], srcAnswers := [.ok], wrAnswers := [.full], rx := [a] }

/-- The state a step answers, if it answers one. -/
def ran (o : Host.Outcome State Fault Refusal) : Option State :=
  match o with
  | .next t => some t
  | .fault _ | .refused _ => none

/-- The refusal a step answers, if it answers one. -/
def refusal (o : Host.Outcome State Fault Refusal) : Option Refusal :=
  match o with
  | .refused r => some r
  | .next _ | .fault _ => none

/-- The fault a step answers, if it answers one. -/
def faultOf (o : Host.Outcome State Fault Refusal) : Option Fault :=
  match o with
  | .fault f => some f
  | .next _ | .refused _ => none

/-- What `decode` reads, if it reads an instruction. -/
def read (c : Call) : Option Instr := (decode c).toOption

/-! ### Well-formedness: one ill-formed term for each check -/

theorem test_wellFormed_rxOther : (Instr.rxOther 0x06).wellFormed = false := by decide
theorem test_wellFormed_frPad : (Instr.frPad (List.replicate 129 0)).wellFormed = false := by decide +kernel
theorem test_wellFormed_frFrame : (Instr.frFrame 1 (List.replicate 129 0)).wellFormed = false := by decide +kernel
theorem test_wellFormed_frame_length : (Instr.txFrame 1 0xFE [] 0 0).wellFormed = false := by decide
theorem test_wellFormed_frame_complement :
    (Instr.txFrame 1 0xFF helloPadded 0x74 0x90).wellFormed = false := by decide +kernel
theorem test_wellFormed_frame_crcHi :
    (Instr.txFrame 1 0xFE helloPadded 0x75 0x90).wellFormed = false := by decide +kernel
theorem test_wellFormed_frame_crcLo :
    (Instr.txFrame 1 0xFE helloPadded 0x74 0x91).wellFormed = false := by decide +kernel
theorem test_wellFormed_frame :
    (Instr.txFrame 1 0xFE helloPadded 0x74 0x90).wellFormed = true := by decide +kernel

/-! ### Decoding: words written out from the encodings of the spec (R101, R102, R108, R113, R114) -/

theorem test_decode_rx :
    [0b00000110#8, 0b00010101#8, 0b00011000#8, 0b01000011#8, 0b01100011#8].map (fun b => read (.rxByte b)) =
      [some .rxAck, some .rxNak, some .rxCan, some .rxStart, some (.rxOther 0x63)] := by decide

theorem test_decode_tx : read (.txByte 0b00000100#8) = some .txEot ∧ read (.txByte 0x05) = none := by decide

/-- The bytes of VF10, at their offsets in R101. -/
theorem test_decode_frame :
    read (.txFrame helloFrame) = some (.txFrame 0x01 0xFE helloPadded 0x74 0x90) := by decide +kernel

theorem test_decode_frame_refused :
    read (.txFrame (0x02 :: helloFrame.tail)) = none ∧ read (.txFrame (helloFrame ++ [0])) = none
      ∧ read (.txFrame (helloFrame.drop 1)) = none := by decide +kernel

theorem test_decode_op :
    [0b0000#4, 0b0001#4, 0b0010#4, 0b0011#4, 0b0100#4, 0b0101#4].map (fun b => read (.op b noArgs)) =
      [some .crcInit, some .crcRound, some (.crcByte 0), some (.crcBlock []), some (.frPad []),
       some (.frCmpl 0)] := by decide

theorem test_decode_op_high :
    [0b0110#4, 0b0111#4, 0b1000#4, 0b1001#4, 0b1010#4, 0b1011#4, 0b1100#4, 0b1111#4].map
        (fun b => read (.op b noArgs)) =
      [some (.frFrame 0 []), some (.srcRead 0 0), some (.chRead 0), some (.chWrite []), some .reset,
       some (.evtEmit noArgs.event), none, none] := by decide

/-- Operands reach their fields. -/
theorem test_decode_op_operands :
    read (.op 7 { noArgs with pos := 5, count := 128 }) = some (.srcRead 5 128)
      ∧ read (.op 8 { noArgs with timeout := 9 }) = some (.chRead 9)
      ∧ read (.op 6 { noArgs with byte := 3, bytes := hello }) = some (.frFrame 3 hello) := by decide

/-- The transition keys of the vectors of spec/96 section 2.4 (R113). -/
theorem test_decode_start :
    [0b0000001101#10, 0b0000001000#10, 0b0100000000#10, 0b0000011000#10,
     0b0000000100#10, 0b0000010101#10, 0b0000000101#10].map (fun k => read (.fsmKey k)) =
      [some .startGo, some .startCan, some .startIoerr,
       some .startPoll, some .startPollAck, some .startExhaust, some .startExhaustAck] := by decide

theorem test_decode_block :
    [0b0000100010#10, 0b0000100011#10, 0b0000100001#10, 0b0100100000#10].map (fun k => read (.fsmKey k)) =
      [some .blockSend, some .blockSendEmpty, some .blockEof, some .blockIoerr] := by decide

theorem test_decode_ack :
    [0b0001000101#10, 0b0001001000#10, 0b0001010000#10, 0b0001001100#10,
     0b0001010101#10, 0b0001001101#10, 0b0101000000#10].map (fun k => read (.fsmKey k)) =
      [some .ackAdv, some .ackCan, some .ackRetry,
       some .ackRetryC, some .ackExhaust, some .ackExhaustC, some .ackIoerr] := by decide

theorem test_decode_retry_eot :
    [0b0001100000#10, 0b0101100000#10, 0b0010000000#10, 0b0110000000#10].map (fun k => read (.fsmKey k)) =
      [some .retrySend, some .retryIoerr, some .eotSend, some .eotIoerr] := by decide

theorem test_decode_eotack :
    [0b0010100100#10, 0b0010101000#10, 0b0010110000#10, 0b0010101100#10,
     0b0010110101#10, 0b0010101101#10, 0b0110100000#10].map (fun k => read (.fsmKey k)) =
      [some .eotackDone, some .eotackCan, some .eotackRetry,
       some .eotackRetryC, some .eotackExhaust, some .eotackExhaustC, some .eotackIoerr] := by decide

theorem test_decode_terminal :
    [0b1001100000#10, 0b1010100000#10, 0b0011000000#10, 0b1011100000#10].map (fun k => read (.fsmKey k)) =
      [some .cancel, some .cancelHi, some .haltDone, some .haltFailed] := by decide

/-- Keys no row matches are refused (R113, S14): a stimulus in SEND_BLOCK, no stimulus in AWAIT_START. -/
theorem test_decode_key_refused :
    read (.fsmKey 0b0000100100#10) = none ∧ read (.fsmKey 0b0000000000#10) = none := by decide

/-- The host's words: the received byte 0x43, the selector 0xA, the key of `ACK.ADV`, and a key above 10 bits. -/
theorem test_tableWord :
    decodeTableWord 8 0x43 = some .rxStart ∧ decodeTableWord 8 0x0A = some .reset
      ∧ decodeTableWord 16 0x044 = some .ackAdv ∧ decodeTableWord 16 0x400 = none := by decide

/-! ### Reset -/

theorem test_reset_step : refusal (step { State.reset with cfg := { Params.standard with maxStartPolls := 0 } }) =
    some .illegalConfig := by decide

/-! ### CRC Engine (VC0 to VC43) -/

theorem test_crcInit_VC0 :
    (ran (exec .crcInit { State.reset with crc := 0xFFFF })).map (·.crc) = some 0x0000 := by decide

theorem test_crcRound_VC :
    [0x0001#16, 0x8000#16, 0x7FFF#16, 0xFFFF#16, 0x4000#16, 0x8200#16, 0x8810#16].map
        (fun r => (ran (exec .crcRound { State.reset with crc := r })).map (·.crc)) =
      [some 0x0002, some 0x1021, some 0xFFFE, some 0xEFDF, some 0x8000, some 0x1421, some 0x0001] := by decide

theorem test_crcByte_VC10 :
    [0x00#8, 0x01#8, 0x80#8, 0x41#8, 0xFF#8, 0x1A#8, 0x43#8].map
        (fun b => (ran (exec (.crcByte b) State.reset)).map (·.crc)) =
      [some 0x0000, some 0x1021, some 0x9188, some 0x58E5, some 0x1EF0, some 0xB37B, some 0x78A7] := by decide +kernel

theorem test_crcByte_VC18 :
    (ran (exec (.crcByte 0x56) { State.reset with crc := 0x1234 })).map (·.crc) = some 0x3C40
      ∧ (ran (exec (.crcByte 0x00) { State.reset with crc := 0xFFFF })).map (·.crc) = some 0xE1F0
      ∧ (ran (exec (.crcByte 0xFF) { State.reset with crc := 0xFFFF })).map (·.crc) = some 0xFF00 := by
  decide +kernel

/-- VC26: the register and the answer, high byte first. -/
theorem test_crcBlock_VC26 :
    (ran (exec (.crcBlock helloPadded) { State.reset with crc := 0xFFFF })).map (fun t => (t.crc, t.answer)) =
      some (0x7490, .bytes [0x74, 0x90]) := by decide +kernel

/-- VC20 to VC25, VC27 to VC29. -/
theorem test_crcBlock_VC20 :
    [List.replicate 128 0x00#8, List.replicate 128 0x1A#8, List.replicate 128 0xFF#8, rampBytes 128,
     (rampBytes 256).drop 128, rampBytes 44 ++ List.replicate 84 0x1A#8, hello ++ List.replicate 123 0x00#8,
     List.replicate 127 0x00#8 ++ [0x01#8], 0x01#8 :: List.replicate 127 0x00#8].map computeCrc =
      [0x0000, 0xF8B0, 0xEDA9, 0xE80A, 0x53E8, 0x3E4A, 0xA546, 0x1021, 0x9295] := by decide +kernel

/-- VC30 to VC34: the general function. -/
theorem test_computeCrc_VC34 :
    [[], [0x41], [0x41, 0x42], [0, 0, 0, 0, 0, 0x41], [0x31, 0x32, 0x33, 0x34, 0x35, 0x36, 0x37, 0x38, 0x39]].map
        computeCrc = [0x0000, 0x58E5, 0x567B, 0x58E5, 0x31C3] := by decide +kernel

/-! ### Block Framer (VF1 to VF18) -/

theorem test_frCmpl_VF1 :
    [0x00#8, 0x01#8, 0x02#8, 0x7F#8, 0x80#8, 0xFF#8].map
        (fun q => (ran (exec (.frCmpl q) State.reset)).map (·.answer)) =
      [0xFF, 0xFE, 0xFD, 0x80, 0x7F, 0x00].map (fun c => some (.byte c)) := by decide

/-- VF7, VF8, VF9a. -/
theorem test_frPad_VF8 :
    [[], hello, List.replicate 127 0x00#8].map (fun c => (ran (exec (.frPad c) State.reset)).map (·.answer)) =
      [List.replicate 128 0x1A#8, helloPadded, List.replicate 127 0x00#8 ++ [0x1A#8]].map
        (fun p => some (.bytes p)) := by decide +kernel

/-- A chunk of 129 bytes is refused (R165). -/
theorem test_frPad_long :
    refusal (exec (.frPad (List.replicate 129 0)) State.reset) = some .chunkTooLong := by decide +kernel

/-- VF10, and VF17: the padded payload gives the same frame. -/
theorem test_frFrame_VF10 :
    [hello, helloPadded].map (fun c => (ran (exec (.frFrame 1 c) State.reset)).map (·.answer)) =
      [some (.bytes helloFrame), some (.bytes helloFrame)] := by decide +kernel

/-- VF13 to VF16a. -/
theorem test_frFrame_VF13 :
    frameBytes 0x1A 2 ((rampBytes 256).drop 128) = [0x01, 0x02, 0xFD] ++ (rampBytes 256).drop 128 ++ [0x53, 0xE8]
      ∧ frameBytes 0x1A 3 (rampBytes 44) =
        [0x01, 0x03, 0xFC] ++ rampBytes 44 ++ List.replicate 84 0x1A ++ [0x3E, 0x4A]
      ∧ frameBytes 0x1A 0 (List.replicate 128 0) = [0x01, 0x00, 0xFF] ++ List.replicate 128 0 ++ [0x00, 0x00]
      ∧ frameBytes 0x1A 255 (List.replicate 128 0) = [0x01, 0xFF, 0x00] ++ List.replicate 128 0 ++ [0x00, 0x00]
      ∧ frameBytes 0x00 1 hello = [0x01, 0x01, 0xFE] ++ hello ++ List.replicate 123 0 ++ [0xA5, 0x46] := by
  decide +kernel

/-! ### Received bytes (VR1 to VR12) -/

theorem test_classify_VR :
    [0x06#8, 0x15#8, 0x18#8, 0x43#8, 0x00#8, 0x01#8, 0x04#8, 0x1A#8, 0x63#8, 0x07#8, 0x14#8, 0xFF#8].map
        (fun b => stimCode (classStimulus (classify b))) = [1, 4, 2, 3, 6, 6, 6, 6, 6, 6, 6, 6] := by decide

theorem test_rx_rows :
    [Instr.rxAck, .rxNak, .rxCan, .rxStart, .rxOther 0x63].map
        (fun i => (ran (exec i State.reset)).map (·.answer)) =
      [.ack, .nak, .can, .start, .other].map (fun c => some (.cls c)) := by decide

/-- The default row does not apply to a named byte. -/
theorem test_rxOther_named : refusal (exec (.rxOther 0x15) State.reset) = some .rowDoesNotApply := by decide

/-! ### Transmitted formats and interface primitives -/

theorem test_txFrame :
    (ran (exec (.txFrame 1 0xFE helloPadded 0x74 0x90) { State.reset with wrAnswers := [.full] })).map
      (fun t => (t.tx, t.writes, t.answer)) = some (helloFrame, [helloFrame], .ok) := by decide +kernel

theorem test_txEot :
    (ran (exec .txEot { State.reset with tx := [0xAA], wrAnswers := [.full] })).map (fun t => (t.tx, t.answer)) =
      some ([0xAA, 0x04], .ok) := by decide

/-- R64: a read past the end gives the bytes up to the end. -/
theorem test_srcRead :
    (ran (exec (.srcRead 3 128) { State.reset with src := hello, srcAnswers := [.ok] })).map
      (fun t => (t.answer, t.filePos)) = some (.bytes [0x6C, 0x6F], 0) := by decide

theorem test_srcRead_error :
    (ran (exec (.srcRead 0 1) { State.reset with src := hello, srcAnswers := [.ioError] })).map (·.answer) =
      some .ioError := by decide

theorem test_chRead :
    (ran (exec (.chRead 7) { State.reset with rx := [.byte 0x58, .timeout] })).map
      (fun t => (t.answer, t.rx, t.reads)) = some (.byte 0x58, [.timeout], [7]) := by decide

theorem test_chRead_timeout :
    (ran (exec (.chRead 7) { State.reset with rx := [.timeout] })).map (·.answer) = some .timeout := by decide

theorem test_chWrite :
    (ran (exec (.chWrite hello) { State.reset with wrAnswers := [.full] })).map (fun t => (t.answer, t.tx)) =
      some (.ok, hello) := by decide

/-- R67: a short count is an I/O error. -/
theorem test_chWrite_short :
    (ran (exec (.chWrite hello) { State.reset with wrAnswers := [.short] })).map (·.answer) =
      some .ioError := by decide

/-- VI1: `RESET` from the end of program P3. -/
theorem test_reset_VI1 :
    (ran (exec .reset { State.reset with
        fsm := .failed, reason := some .maxRetriesExceeded, seq := 1, retryCount := 3, chunkLen := 5, tx := [0x01],
        rx := [.timeout] })).map
      (fun t => (t.fsm, t.seq, t.chunkLen, t.retryCount, t.reason)) = some (.awaitStart, 0, 0, 0, none) := by decide

theorem test_evtEmit :
    (ran (exec (.evtEmit ⟨.rx, 1, 1, .cls .ack, .awaitStart, .awaitStart, 0x06⟩) State.reset)).map (·.events) =
      some [⟨.rx, 1, 1, .cls .ack, .awaitStart, .awaitStart, 0x06⟩] := by decide

/-- The widths and codes of R248: kind 2, seq 1, count 1, outcome 9, from 0, to 0, value 6. -/
theorem test_eventBits :
    eventBits ⟨.rx, 1, 1, .cls .ack, .awaitStart, .awaitStart, 0x06⟩ =
      0b10_00000001_00000001_1001_000_000_00000110 := by decide

/-! ### One vector per transition (VT1 to VT46): the key, the registers, the events -/

/-- The step beginning in `s` has this key and answers a next state with this property. -/
def shows (s : State) (key : BitVec 10) (p : State → Bool) : Bool :=
  transitionKey s == key && (ran (step s)).any p

theorem test_startGo_VT1 :
    shows (before .awaitStart 0 (.byte 0x43)) 0b0000001100
      (fun t => t.fsm == .sendBlock && t.seq == 1
        && t.events == [⟨.rx, 0, 1, .cls .start, .awaitStart, .awaitStart, 0x43⟩,
          ⟨.trans, 0, 0, .none, .awaitStart, .sendBlock, 0⟩]) = true := by decide

theorem test_startGo_VT2 :
    shows { before .awaitStart 0 (.byte 0x43) with pollCount := 2 } 0b0000001101
      (fun t => t.fsm == .sendBlock && t.seq == 1 && t.pollCount == 2
        && t.events == [⟨.rx, 0, 1, .cls .start, .awaitStart, .awaitStart, 0x43⟩,
          ⟨.trans, 0, 0, .none, .awaitStart, .sendBlock, 0⟩]) = true := by decide

theorem test_startCan_VT3 :
    shows (before .awaitStart 0 (.byte 0x18)) 0b0000001000
      (fun t => t.fsm == .failed && t.reason == some .peerCancelled
        && t.events == [⟨.rx, 0, 1, .cls .can, .awaitStart, .awaitStart, 0x18⟩,
          ⟨.trans, 0, 0, .reason .peerCancelled, .awaitStart, .failed, 0⟩]) = true := by decide

theorem test_startIoerr_VT4 :
    shows (before .awaitStart 0 .ioError) 0b0100000000
      (fun t => t.fsm == .failed && t.reason == some .ioError && t.pollCount == 0
        && t.events == [⟨.trans, 0, 0, .reason .ioError, .awaitStart, .failed, 0⟩]) = true := by decide

theorem test_startPoll_VT5 :
    shows (before .awaitStart 0 .timeout) 0b0000010100
      (fun t => t.fsm == .awaitStart && t.pollCount == 1 && t.reads == [10000]
        && t.events == [⟨.trans, 0, 0, .none, .awaitStart, .awaitStart, 0⟩]) = true := by decide

theorem test_startPoll_VT7 :
    shows { before .awaitStart 0 (.byte 0x58) with pollCount := 1 } 0b0000011000
      (fun t => t.fsm == .awaitStart && t.pollCount == 2
        && t.events == [⟨.rx, 0, 1, .cls .other, .awaitStart, .awaitStart, 0x58⟩,
          ⟨.trans, 0, 0, .none, .awaitStart, .awaitStart, 0⟩]) = true := by decide

theorem test_startPollAck_VT8 :
    shows (before .awaitStart 0 (.byte 0x06)) 0b0000000100
      (fun t => t.fsm == .awaitStart && t.pollCount == 1
        && t.events == [⟨.rx, 0, 1, .cls .ack, .awaitStart, .awaitStart, 0x06⟩,
          ⟨.trans, 0, 0, .none, .awaitStart, .awaitStart, 0⟩]) = true := by decide

theorem test_startExhaust_VT9 :
    shows { before .awaitStart 0 .timeout with pollCount := 2 } 0b0000010101
      (fun t => t.fsm == .failed && t.pollCount == 3 && t.reason == some .noStartSignal
        && t.events == [⟨.trans, 0, 0, .reason .noStartSignal, .awaitStart, .failed, 0⟩]) = true := by decide

theorem test_startExhaustAck_VT10 :
    shows { before .awaitStart 0 (.byte 0x06) with pollCount := 2 } 0b0000000101
      (fun t => t.fsm == .failed && t.pollCount == 3 && t.reason == some .noStartSignal
        && t.events == [⟨.rx, 0, 1, .cls .ack, .awaitStart, .awaitStart, 0x06⟩,
          ⟨.trans, 0, 0, .reason .noStartSignal, .awaitStart, .failed, 0⟩]) = true := by decide

theorem test_blockSend_VT12 :
    shows (before .sendBlock 1 .timeout) 0b0000100010
      (fun t => t.fsm == .awaitAck && t.chunkLen == 5 && t.retryCount == 0 && t.tx == helloFrame
        && t.rx == [.timeout]
        && t.events == [⟨.tx, 1, 133, .ok, .awaitStart, .awaitStart, 0⟩,
          ⟨.trans, 1, 0, .none, .sendBlock, .awaitAck, 0⟩]) = true := by decide +kernel

theorem test_blockSend_VT13 :
    shows { before .sendBlock 2 .timeout with 
        src := rampBytes 300, filePos := 128, blockIndex := 1, retryCount := 2 }
      0b0000100000
      (fun t => t.fsm == .awaitAck && t.chunkLen == 128 && t.retryCount == 0 && t.filePos == 128
        && t.tx == [0x01, 0x02, 0xFD] ++ (rampBytes 256).drop 128 ++ [0x53, 0xE8]
        && t.events == [⟨.tx, 2, 133, .ok, .awaitStart, .awaitStart, 0⟩,
          ⟨.trans, 2, 0, .none, .sendBlock, .awaitAck, 0⟩]) = true := by decide +kernel

theorem test_blockSendEmpty_VT14 :
    shows { before .sendBlock 1 .timeout with src := [] } 0b0000100011
      (fun t => t.fsm == .awaitAck && t.chunkLen == 0
        && t.tx == [0x01, 0x01, 0xFE] ++ List.replicate 128 0x1A ++ [0xF8, 0xB0]
        && t.events == [⟨.tx, 1, 133, .ok, .awaitStart, .awaitStart, 0⟩,
          ⟨.trans, 1, 0, .none, .sendBlock, .awaitAck, 0⟩]) = true := by decide +kernel

theorem test_blockEof_VT15 :
    shows { before .sendBlock 2 .timeout with filePos := 5, blockIndex := 1, retryCount := 3 } 0b0000100001
      (fun t => t.fsm == .sendEot && t.retryCount == 0 && t.tx == [] && t.rx == [.timeout]
        && t.events == [⟨.trans, 2, 0, .none, .sendBlock, .sendEot, 0⟩]) = true := by decide

theorem test_blockIoerr_VT16 :
    shows { before .sendBlock 1 .timeout with wrAnswers := [.error] } 0b0100100000
      (fun t => t.fsm == .failed && t.reason == some .ioError && t.chunkLen == 0
        && t.events == [⟨.trans, 1, 0, .reason .ioError, .sendBlock, .failed, 0⟩]) = true := by decide +kernel

theorem test_blockIoerr_VT17 :
    shows { before .sendBlock 1 .timeout with srcAnswers := [.ioError] } 0b0100100000
      (fun t => t.fsm == .failed && t.reason == some .ioError && t.writes == []
        && t.events == [⟨.trans, 1, 0, .reason .ioError, .sendBlock, .failed, 0⟩]) = true := by decide

theorem test_ackAdv_VT18 :
    shows { before .awaitAck 1 (.byte 0x06) with chunkLen := 5 } 0b0001000100
      (fun t => t.fsm == .sendBlock && t.seq == 2 && t.filePos == 5 && t.bytesSent == 5 && t.blockIndex == 1
        && t.events == [⟨.rx, 1, 1, .cls .ack, .awaitStart, .awaitStart, 0x06⟩,
          ⟨.trans, 1, 0, .none, .awaitAck, .sendBlock, 0⟩]) = true := by decide

theorem test_ackAdv_VT19 :
    shows { before .awaitAck 255 (.byte 0x06) with 
        chunkLen := 128, filePos := 32512, bytesSent := 32512, blockIndex := 254 }
      0b0001000100
      (fun t => t.fsm == .sendBlock && t.seq == 1 && t.filePos == 32640 && t.bytesSent == 32640
        && t.blockIndex == 255
        && t.events == [⟨.rx, 255, 1, .cls .ack, .awaitStart, .awaitStart, 0x06⟩,
          ⟨.trans, 255, 0, .none, .awaitAck, .sendBlock, 0⟩]) = true := by decide

theorem test_ackCan_VT21 :
    shows (before .awaitAck 1 (.byte 0x18)) 0b0001001000
      (fun t => t.fsm == .failed && t.reason == some .peerCancelled
        && t.events == [⟨.rx, 1, 1, .cls .can, .awaitStart, .awaitStart, 0x18⟩,
          ⟨.trans, 1, 0, .reason .peerCancelled, .awaitAck, .failed, 0⟩]) = true := by decide

theorem test_ackRetry_VT22 :
    shows (before .awaitAck 1 (.byte 0x15)) 0b0001010000
      (fun t => t.fsm == .retry && t.retryCount == 1
        && t.events == [⟨.rx, 1, 1, .cls .nak, .awaitStart, .awaitStart, 0x15⟩,
          ⟨.trans, 1, 0, .none, .awaitAck, .retry, 0⟩]) = true := by decide

theorem test_ackRetry_VT23 :
    shows { before .awaitAck 1 .timeout with retryCount := 15 } 0b0001010100
      (fun t => t.fsm == .retry && t.retryCount == 16
        && t.events == [⟨.trans, 1, 0, .none, .awaitAck, .retry, 0⟩]) = true := by decide

theorem test_ackRetryC_VT25 :
    shows (before .awaitAck 1 (.byte 0x43)) 0b0001001100
      (fun t => t.fsm == .retry && t.retryCount == 1
        && t.events == [⟨.rx, 1, 1, .cls .start, .awaitStart, .awaitStart, 0x43⟩,
          ⟨.trans, 1, 0, .none, .awaitAck, .retry, 0⟩]) = true := by decide

theorem test_ackExhaust_VT26 :
    shows { before .awaitAck 1 (.byte 0x15) with retryCount := 16 } 0b0001010001
      (fun t => t.fsm == .failed && t.retryCount == 17 && t.reason == some .maxRetriesExceeded
        && t.events == [⟨.rx, 1, 1, .cls .nak, .awaitStart, .awaitStart, 0x15⟩,
          ⟨.trans, 1, 0, .reason .maxRetriesExceeded, .awaitAck, .failed, 0⟩]) = true := by decide

theorem test_ackExhaustC_VT27 :
    shows { before .awaitAck 1 (.byte 0x43) with retryCount := 16 } 0b0001001101
      (fun t => t.fsm == .failed && t.retryCount == 17 && t.reason == some .maxRetriesExceeded
        && t.events == [⟨.rx, 1, 1, .cls .start, .awaitStart, .awaitStart, 0x43⟩,
          ⟨.trans, 1, 0, .reason .maxRetriesExceeded, .awaitAck, .failed, 0⟩]) = true := by decide

theorem test_ackIoerr_VT29 :
    shows (before .awaitAck 1 .ioError) 0b0101000000
      (fun t => t.fsm == .failed && t.reason == some .ioError && t.retryCount == 0
        && t.events == [⟨.trans, 1, 0, .reason .ioError, .awaitAck, .failed, 0⟩]) = true := by decide

theorem test_retrySend_VT30 :
    shows { before .retry 1 .timeout with retryCount := 1, pay := writeBytes [] 0 helloPadded } 0b0001100000
      (fun t => t.fsm == .awaitAck && t.retryCount == 1 && t.tx == helloFrame
        && t.events == [⟨.tx, 1, 133, .ok, .awaitStart, .awaitStart, 0⟩,
          ⟨.trans, 1, 0, .none, .retry, .awaitAck, 0⟩]) = true := by decide +kernel

theorem test_retryIoerr_VT31 :
    shows { before .retry 1 .timeout with retryCount := 1, wrAnswers := [.error] } 0b0101100000
      (fun t => t.fsm == .failed && t.reason == some .ioError && t.retryCount == 1
        && t.events == [⟨.trans, 1, 0, .reason .ioError, .retry, .failed, 0⟩]) = true := by decide +kernel

theorem test_eotSend_VT32 :
    shows (before .sendEot 2 .timeout) 0b0010000000
      (fun t => t.fsm == .awaitEotAck && t.tx == [0x04]
        && t.events == [⟨.tx, 2, 1, .ok, .awaitStart, .awaitStart, 0⟩,
          ⟨.trans, 2, 0, .none, .sendEot, .awaitEotAck, 0⟩]) = true := by decide

theorem test_eotIoerr_VT33 :
    shows { before .sendEot 2 .timeout with wrAnswers := [.short] } 0b0110000000
      (fun t => t.fsm == .failed && t.reason == some .ioError
        && t.events == [⟨.trans, 2, 0, .reason .ioError, .sendEot, .failed, 0⟩]) = true := by decide

theorem test_eotackDone_VT34 :
    shows (before .awaitEotAck 2 (.byte 0x06)) 0b0010100100
      (fun t => t.fsm == .done && t.reason == none
        && t.events == [⟨.rx, 2, 1, .cls .ack, .awaitStart, .awaitStart, 0x06⟩,
          ⟨.trans, 2, 0, .done, .awaitEotAck, .done, 0⟩]) = true := by decide

theorem test_eotackCan_VT35 :
    shows (before .awaitEotAck 2 (.byte 0x18)) 0b0010101000
      (fun t => t.fsm == .failed && t.reason == some .peerCancelled
        && t.events == [⟨.rx, 2, 1, .cls .can, .awaitStart, .awaitStart, 0x18⟩,
          ⟨.trans, 2, 0, .reason .peerCancelled, .awaitEotAck, .failed, 0⟩]) = true := by decide

theorem test_eotackRetry_VT36 :
    shows (before .awaitEotAck 2 (.byte 0x15)) 0b0010110000
      (fun t => t.fsm == .sendEot && t.retryCount == 1
        && t.events == [⟨.rx, 2, 1, .cls .nak, .awaitStart, .awaitStart, 0x15⟩,
          ⟨.trans, 2, 0, .none, .awaitEotAck, .sendEot, 0⟩]) = true := by decide

theorem test_eotackRetryC_VT37 :
    shows (before .awaitEotAck 2 (.byte 0x43)) 0b0010101100
      (fun t => t.fsm == .sendEot && t.retryCount == 1
        && t.events == [⟨.rx, 2, 1, .cls .start, .awaitStart, .awaitStart, 0x43⟩,
          ⟨.trans, 2, 0, .none, .awaitEotAck, .sendEot, 0⟩]) = true := by decide

theorem test_eotackExhaust_VT38 :
    shows { before .awaitEotAck 2 .timeout with retryCount := 16 } 0b0010110101
      (fun t => t.fsm == .failed && t.retryCount == 17 && t.reason == some .eotNotAcked
        && t.events == [⟨.trans, 2, 0, .reason .eotNotAcked, .awaitEotAck, .failed, 0⟩]) = true := by decide

theorem test_eotackExhaustC_VT39 :
    shows { before .awaitEotAck 2 (.byte 0x43) with retryCount := 16 } 0b0010101101
      (fun t => t.fsm == .failed && t.retryCount == 17 && t.reason == some .eotNotAcked
        && t.events == [⟨.rx, 2, 1, .cls .start, .awaitStart, .awaitStart, 0x43⟩,
          ⟨.trans, 2, 0, .reason .eotNotAcked, .awaitEotAck, .failed, 0⟩]) = true := by decide

theorem test_eotackIoerr_VT40 :
    shows (before .awaitEotAck 2 .ioError) 0b0110100000
      (fun t => t.fsm == .failed && t.reason == some .ioError
        && t.events == [⟨.trans, 2, 0, .reason .ioError, .awaitEotAck, .failed, 0⟩]) = true := by decide

/-- The waiting ACK stays unread. -/
theorem test_cancel_VT43 :
    shows { before .awaitAck 1 (.byte 0x06) with cancelReq := [true] } 0b1001000000
      (fun t => t.fsm == .failed && t.reason == some .cancelledLocally && t.rx == [.byte 0x06] && t.reads == []
        && t.events == [⟨.trans, 1, 0, .reason .cancelledLocally, .awaitAck, .failed, 0⟩]) = true := by decide

theorem test_cancelHi_VT45 :
    shows { before .sendEot 1 (.byte 0x06) with cancelReq := [true] } 0b1010000000
      (fun t => t.fsm == .failed && t.reason == some .cancelledLocally && t.rx == [.byte 0x06] && t.writes == []
        && t.events == [⟨.trans, 1, 0, .reason .cancelledLocally, .sendEot, .failed, 0⟩]) = true := by decide

/-- VH1, VH2: no step in a terminal state. -/
theorem test_halt_VH1 :
    faultOf (step (before .done 4 (.byte 0x06))) = some .sessionOver
      ∧ faultOf (step { before .failed 1 .timeout with cancelReq := [true] }) = some .sessionOver := by decide

/-- A transition row whose state is another does not apply (R113). -/
theorem test_row_elsewhere :
    refusal (exec .ackAdv (before .awaitStart 0 (.byte 0x06))) = some .rowDoesNotApply
      ∧ refusal (exec .haltDone (before .awaitAck 1 (.byte 0x06))) = some .rowDoesNotApply := by decide

/-- VN1 to VN5. -/
theorem test_nextSeq_VN : [1, 127, 254, 255, 0].map nextSeq = [2, 128, 255, 1, 1] := by decide

/-! ### Results (VI2) and scenarios -/

theorem test_result_VI2 :
    sessionResult { State.reset with fsm := .done, bytesSent := 300, blockIndex := 3 } = some (.success 300)
      ∧ paddedTotal { State.reset with fsm := .done, bytesSent := 300, blockIndex := 3 } = 384
      ∧ sessionResult { State.reset with fsm := .failed, reason := some .maxRetriesExceeded, seq := 1 } =
        some (.failure .retriesExhausted 1)
      ∧ sessionClass { State.reset with fsm := .failed, reason := some .noStartSignal } = some .timedOut
      ∧ sessionResult { State.reset with fsm := .failed, reason := some .peerCancelled, seq := 2 } =
        some (.failure .peerCancelled 2) := by decide

/-- Program P4, up to its end state: three polls, no write, `no_start_signal`. -/
theorem test_scenario_P4 :
    (ran (Host.Core.run Sys2Proof.core 3 (scenario 3
      [.params { Params.standard with maxStartPolls := 3 }, .srcHex hello, .reset, .rx .timeout 3]))).map
      (fun t => (t.fsm, t.reason, t.pollCount, t.tx, t.reads.length)) =
      some (.failed, some .noStartSignal, 3, [], 3) := by decide

/-- Program P13, its three steps. -/
theorem test_scenario_P13 :
    (ran (Host.Core.run Sys2Proof.core 3 (scenario 3
      [.srcHex hello, .reset, .rx (.byte 0x43) 1, .rx .ioError 1]))).map
      (fun t => (t.fsm, t.reason, t.seq, t.chunkLen, t.tx)) =
      some (.failed, some .ioError, 1, 5, helloFrame) := by decide +kernel

end Sys2Proof.Tests
end

