-- ==== Sys2Proof/Tests/Witness.lean ====
section
/-! SUPPORT. Sys2Proof/Tests/Witness.lean: for every statement with hypotheses, a concrete state and operands that meet them
together, clause by clause, at the boundary values. A witness carries the statement's name. -/

namespace Sys2Proof.Tests

-- one theorem after another: each one checked at the same time takes a thread's whole stack out of the memory limit
set_option Elab.async false

open Sys2Proof.Machine

/-- The hypotheses of a statement about a reading state. -/
abbrev Reads (s : State) (f : Fsm) (a : ReadAnswer) : Prop :=
  s.fsm = f ∧ cancelNow s = false ∧ readNow s = a

/-! ### CRC Engine and Block Framer -/

theorem witness_CrcRoundShiftsAndReduces :
    (0x8000 : Word16).getLsbD 15 = true ∧ (0x7FFF : Word16).getLsbD 15 = false := by decide

theorem witness_CrcBlockFoldsBytes : helloPadded.length = 128 := by decide +kernel

theorem witness_CrcIsLinear : helloPadded.length = (rampBytes 128).length := by decide +kernel

theorem witness_FrPadFillsTo128 :
    ([] : List Byte).length ≤ 128 ∧ (List.replicate 128 (0 : Byte)).length ≤ 128
      ∧ 128 < (List.replicate 129 (0 : Byte)).length := by decide +kernel

theorem witness_FrFrameLaysOutFrame :
    hello.length ≤ 128 ∧ helloPadded.length ≤ 128 ∧ 128 < (helloPadded ++ [0]).length := by decide +kernel

/-- The RETRY state of a session whose last transmission left `t`. -/
def retryAfter (t : State) : State :=
  { before .retry 1 .timeout with seq := t.seq, pay := t.pay, cfg := t.cfg }

theorem ran_some {o : Host.Outcome State Fault Refusal} {t : State} (h : ran o = some t) : o = .next t := by
  cases o with
  | next u => exact congrArg _ (Option.some.inj h)
  | fault f => exact nomatch h
  | refused r => exact nomatch h

/-- After a full chunk and after the empty one. -/
theorem sent_then_retry (i : Instr) (s : State)
    (h : (i = .blockSend ∧ s = before .sendBlock 1 .timeout)
      ∨ (i = .blockSendEmpty ∧ s = { before .sendBlock 1 .timeout with src := [] })) :
    ∃ t u, memoryWf s.pay = true ∧ exec i s = .next t ∧ u.fsm = .retry ∧ u.seq = t.seq ∧ u.pay = t.pay
      ∧ u.cfg.padByte = t.cfg.padByte ∧ cancelNow u = false
      ∧ (writeChannel (retryFrame u) (afterCancel u)).1 = .ok := by
  have hr : (ran (exec i s)).isSome = true := by
    rcases h with ⟨rfl, rfl⟩ | ⟨rfl, rfl⟩ <;> decide +kernel
  obtain ⟨t, ht⟩ := Option.isSome_iff_exists.1 hr
  refine ⟨t, retryAfter t, ?_, ran_some ht, rfl, rfl, rfl, rfl, rfl, rfl⟩
  rcases h with ⟨-, rfl⟩ | ⟨-, rfl⟩ <;> rfl

theorem witness_RetryResendsSameFrame :
    ∃ i s t u, (i = Instr.blockSend ∨ i = .blockSendEmpty) ∧ memoryWf s.pay = true ∧ exec i s = .next t
      ∧ u.fsm = .retry ∧ u.seq = t.seq ∧ u.pay = t.pay ∧ u.cfg.padByte = t.cfg.padByte ∧ cancelNow u = false
      ∧ (writeChannel (retryFrame u) (afterCancel u)).1 = .ok := by
  obtain ⟨t, u, h⟩ := sent_then_retry .blockSend _ (.inl ⟨rfl, rfl⟩)
  exact ⟨_, _, t, u, .inl rfl, h⟩

theorem witness_RetryResendsSameFrame_empty :
    ∃ i s t u, (i = Instr.blockSend ∨ i = .blockSendEmpty) ∧ memoryWf s.pay = true ∧ exec i s = .next t
      ∧ u.fsm = .retry ∧ u.seq = t.seq ∧ u.pay = t.pay ∧ u.cfg.padByte = t.cfg.padByte ∧ cancelNow u = false
      ∧ (writeChannel (retryFrame u) (afterCancel u)).1 = .ok := by
  obtain ⟨t, u, h⟩ := sent_then_retry .blockSendEmpty _ (.inr ⟨rfl, rfl⟩)
  exact ⟨_, _, t, u, .inr rfl, h⟩

/-! ### Wire rows and interface primitives -/

theorem witness_ReceivedByteHasItsClass :
    (0x63 : Byte) ≠ 0x06 ∧ (0x63 : Byte) ≠ 0x15 ∧ (0x63 : Byte) ≠ 0x18 ∧ (0x63 : Byte) ≠ 0x43 := by decide

theorem witness_TransmittedFormatsAreOneWrite :
    (writeChannel [0x04] (before .sendEot 1 .timeout)).1 = .ok
      ∧ (writeChannel [0x04] { before .sendEot 1 .timeout with wrAnswers := [.short] }).1 = .ioError
      ∧ (writeChannel helloFrame (before .sendBlock 1 .timeout)).1 = .ok
      ∧ (writeChannel helloFrame { before .sendBlock 1 .timeout with wrAnswers := [.error] }).1 = .ioError :=
  ⟨rfl, rfl, rfl, rfl⟩

/-- Two reads of the same position that both succeed; the other clauses' states have the answer at the head. -/
theorem witness_SourceReadGivesSlice :
    (ran (exec (.srcRead 3 128) (before .sendBlock 1 .timeout))).map (·.answer) = some (.bytes [0x6C, 0x6F])
      ∧ (ran (exec (.srcRead 3 128) (before .retry 2 .ioError))).map (·.answer) = some (.bytes [0x6C, 0x6F])
      ∧ (before .sendBlock 1 .timeout).src = (before .retry 2 .ioError).src
      ∧ (before .sendBlock 1 .timeout).srcAnswers = [.ok]
      ∧ { before .sendBlock 1 .timeout with srcAnswers := [.ioError] }.srcAnswers = [SourceAnswer.ioError] := by
  decide

/-- One state for each scheduled answer, and reset, where none is scheduled. -/
theorem witness_ChannelReadConsumesOldest :
    (before .awaitAck 1 (.byte 0x06)).rx = [.byte 0x06] ∧ (before .awaitAck 1 .timeout).rx = [.timeout]
      ∧ (before .awaitAck 1 .ioError).rx = [.ioError] ∧ State.reset.rx = [] := by decide

/-- One state for each scheduled answer, and reset, where none is scheduled. -/
theorem witness_ChannelWriteAllOrError :
    (before .sendEot 1 .timeout).wrAnswers = [.full]
      ∧ { before .sendEot 1 .timeout with wrAnswers := [.short] }.wrAnswers = [WriteAnswer.short]
      ∧ { before .sendEot 1 .timeout with wrAnswers := [.error] }.wrAnswers = [WriteAnswer.error]
      ∧ State.reset.wrAnswers = [] := by decide

/-! ### Reading states -/

theorem witness_StartByteStartsTransfer :
    Reads (before .awaitStart 0 (.byte 0x43)) .awaitStart (.byte 0x43)
      ∧ readNow (before .awaitStart 0 (.byte 0x63)) ≠ .byte 0x43 := by decide

theorem witness_CancelByteFailsSession :
    Reads (before .awaitStart 0 (.byte 0x18)) .awaitStart (.byte 0x18)
      ∧ Reads (before .awaitAck 1 (.byte 0x18)) .awaitAck (.byte 0x18)
      ∧ Reads (before .awaitEotAck 2 (.byte 0x18)) .awaitEotAck (.byte 0x18)
      ∧ readNow (before .awaitAck 1 .timeout) ≠ .byte 0x18 := by decide

theorem witness_ReadErrorFailsSession :
    Reads (before .awaitStart 0 .ioError) .awaitStart .ioError
      ∧ Reads (before .awaitAck 1 .ioError) .awaitAck .ioError
      ∧ Reads (before .awaitEotAck 2 .ioError) .awaitEotAck .ioError
      ∧ readNow (before .awaitAck 1 .timeout) ≠ .ioError := by decide

/-- A timeout, a NAK and an unlisted byte are of the kind the statements name. -/
theorem witness_NakTimeoutOther :
    NakTimeoutOther .timeout ∧ NakTimeoutOther (.byte 0x15) ∧ NakTimeoutOther (.byte 0x58) :=
  ⟨.inl rfl, .inr ⟨_, rfl, by decide⟩, .inr ⟨_, rfl, by decide⟩⟩

/-- The poll before the last one allowed is counted: 1 + 1 < 3; the last is not: 2 + 1 = 3. -/
theorem witness_BadPollIsCounted :
    Reads { before .awaitStart 0 .timeout with pollCount := 1 } .awaitStart .timeout
      ∧ Reads { before .awaitStart 0 (.byte 0x06) with pollCount := 1 } .awaitStart (.byte 0x06)
      ∧ (1 + 1 < (before .awaitStart 0 .timeout).cfg.maxStartPolls)
      ∧ ((before .awaitStart 0 .timeout).cfg.maxStartPolls ≤ 2 + 1) := by decide

theorem witness_LastBadPollFailsSession :
    Reads { before .awaitStart 0 (.byte 0x15) with pollCount := 2 } .awaitStart (.byte 0x15)
      ∧ Reads { before .awaitStart 0 (.byte 0x06) with pollCount := 2 } .awaitStart (.byte 0x06)
      ∧ ((before .awaitStart 0 .timeout).cfg.maxStartPolls ≤ 2 + 1)
      ∧ (1 + 1 < (before .awaitStart 0 .timeout).cfg.maxStartPolls) := by decide

theorem witness_AckAdvancesSession :
    Reads { before .awaitAck 255 (.byte 0x06) with chunkLen := 128 } .awaitAck (.byte 0x06)
      ∧ readNow (before .awaitAck 1 (.byte 0x15)) ≠ .byte 0x06 := by decide

/-- The last answer within the bound: 15 + 1 = 16; the first beyond it: 16 + 1 = 17. -/
theorem witness_BadAckIsRetried :
    Reads { before .awaitAck 1 (.byte 0x15) with retryCount := 15 } .awaitAck (.byte 0x15)
      ∧ Reads { before .awaitAck 1 (.byte 0x43) with retryCount := 15 } .awaitAck (.byte 0x43)
      ∧ (15 + 1 ≤ (before .awaitAck 1 .timeout).cfg.maxRetries)
      ∧ ((before .awaitAck 1 .timeout).cfg.maxRetries < 16 + 1) := by decide

theorem witness_ExhaustedRetriesFailSession :
    Reads { before .awaitAck 1 .timeout with retryCount := 16 } .awaitAck .timeout
      ∧ Reads { before .awaitAck 1 (.byte 0x43) with retryCount := 16 } .awaitAck (.byte 0x43)
      ∧ ((before .awaitAck 1 .timeout).cfg.maxRetries < 16 + 1)
      ∧ (15 + 1 ≤ (before .awaitAck 1 .timeout).cfg.maxRetries) := by decide

theorem witness_EotAckEndsSession :
    Reads (before .awaitEotAck 2 (.byte 0x06)) .awaitEotAck (.byte 0x06)
      ∧ readNow (before .awaitEotAck 2 .timeout) ≠ .byte 0x06 := by decide

theorem witness_BadEotAckIsRetried :
    Reads { before .awaitEotAck 2 .timeout with retryCount := 15 } .awaitEotAck .timeout
      ∧ Reads { before .awaitEotAck 2 (.byte 0x43) with retryCount := 15 } .awaitEotAck (.byte 0x43)
      ∧ (15 + 1 ≤ (before .awaitEotAck 2 .timeout).cfg.maxRetries)
      ∧ ((before .awaitEotAck 2 .timeout).cfg.maxRetries < 16 + 1) := by decide

theorem witness_ExhaustedEotFailsSession :
    Reads { before .awaitEotAck 2 .timeout with retryCount := 16 } .awaitEotAck .timeout
      ∧ Reads { before .awaitEotAck 2 (.byte 0x43) with retryCount := 16 } .awaitEotAck (.byte 0x43)
      ∧ ((before .awaitEotAck 2 .timeout).cfg.maxRetries < 16 + 1)
      ∧ (15 + 1 ≤ (before .awaitEotAck 2 .timeout).cfg.maxRetries) := by decide

/-! ### SEND_BLOCK, RETRY and SEND_EOT -/

/-- SEND_BLOCK on a later chunk: the second of 300 bytes, full. -/
def secondChunk : State :=
  { before .sendBlock 2 .timeout with src := rampBytes 300, filePos := 128, blockIndex := 1 }

/-- A chunk of 5 bytes, of 128, and none, on a first visit; a write that succeeds and one that fails. -/
theorem witness_SendBlockTransmitsChunk :
    (before .sendBlock 1 .timeout).fsm = .sendBlock ∧ cancelNow (before .sendBlock 1 .timeout) = false
      ∧ sourceNow (before .sendBlock 1 .timeout) = .chunk hello
      ∧ sourceNow secondChunk = .chunk ((rampBytes 256).drop 128)
      ∧ sourceNow { before .sendBlock 1 .timeout with src := [] } = .chunk []
      ∧ (before .sendBlock 1 .timeout).blockIndex = 0 ∧ memoryWf (before .sendBlock 1 .timeout).pay = true
      ∧ frameWriteNow hello (before .sendBlock 1 .timeout) = .ok
      ∧ frameWriteNow hello { before .sendBlock 1 .timeout with wrAnswers := [.error] } = .ioError := by
  decide +kernel

/-- The source of "hello" exhausted after its one Block; and a first visit, where the row does not apply. -/
theorem witness_ExhaustedSourceTurnsToEot :
    sourceNow { before .sendBlock 2 .timeout with filePos := 5, blockIndex := 1 } = .chunk []
      ∧ cancelNow { before .sendBlock 2 .timeout with filePos := 5, blockIndex := 1 } = false
      ∧ { before .sendBlock 2 .timeout with filePos := 5, blockIndex := 1 }.blockIndex ≠ 0
      ∧ (before .sendBlock 1 .timeout).blockIndex = 0 := by decide

theorem witness_SendBlockErrorFailsSession :
    sourceNow { before .sendBlock 1 .timeout with srcAnswers := [.ioError] } = .ioError
      ∧ sourceNow { before .sendBlock 1 .timeout with wrAnswers := [.error] } = .chunk hello ∧ hello ≠ []
      ∧ frameWriteNow hello { before .sendBlock 1 .timeout with wrAnswers := [.error] } = .ioError
      ∧ sourceNow (before .sendBlock 1 .timeout) = .chunk hello
      ∧ frameWriteNow hello (before .sendBlock 1 .timeout) = .ok
      ∧ sourceNow { before .sendBlock 1 .timeout with src := [], wrAnswers := [.short] } = .chunk []
      ∧ frameWriteNow [] { before .sendBlock 1 .timeout with src := [], wrAnswers := [.short] } = .ioError := by
  decide +kernel

theorem witness_RetryWritesCachedBlock :
    (before .retry 1 .timeout).fsm = .retry ∧ cancelNow (before .retry 1 .timeout) = false
      ∧ (writeChannel (retryFrame (before .retry 1 .timeout)) (afterCancel (before .retry 1 .timeout))).1 = .ok
      ∧ (writeChannel (retryFrame { before .retry 1 .timeout with wrAnswers := [.error] })
          (afterCancel { before .retry 1 .timeout with wrAnswers := [.error] })).1 = .ioError :=
  ⟨rfl, rfl, rfl, rfl⟩

theorem witness_WriteErrorFailsSession :
    (writeChannel (retryFrame { before .retry 1 .timeout with wrAnswers := [.short] })
        (afterCancel { before .retry 1 .timeout with wrAnswers := [.short] })).1 = .ioError
      ∧ (writeChannel [0x04] (afterCancel { before .sendEot 2 .timeout with wrAnswers := [.error] })).1 = .ioError
      ∧ (writeChannel [0x04] (afterCancel (before .sendEot 2 .timeout))).1 = .ok
      ∧ cancelNow { before .retry 1 .timeout with wrAnswers := [.short] } = false
      ∧ cancelNow { before .sendEot 2 .timeout with wrAnswers := [.error] } = false :=
  ⟨rfl, rfl, rfl, rfl, rfl⟩

theorem witness_EotIsSent :
    (before .sendEot 2 .timeout).fsm = .sendEot ∧ cancelNow (before .sendEot 2 .timeout) = false
      ∧ (writeChannel [0x04] (afterCancel (before .sendEot 2 .timeout))).1 = .ok
      ∧ (writeChannel [0x04] (afterCancel { before .sendEot 2 .timeout with wrAnswers := [.short] })).1 = .ioError :=
  ⟨rfl, rfl, rfl, rfl⟩

/-! ### Cancellation, priority, the terminal states -/

theorem witness_CancelRequestFailsSession :
    (∀ f ∈ [Fsm.awaitStart, .sendBlock, .awaitAck, .retry, .sendEot, .awaitEotAck],
      { before f 1 .timeout with cancelReq := [true] }.fsm = f
        ∧ cancelNow { before f 1 .timeout with cancelReq := [true] } = true
        ∧ cancelNow (before f 1 .timeout) = false) := by decide

theorem witness_TerminalStatesHaveNoStep :
    (before .done 4 .timeout).fsm = .done ∧ (before .failed 1 .timeout).fsm = .failed
      ∧ (before .done 4 .timeout).calls = [] ∧ legalConfig (before .done 4 .timeout) = true
      ∧ legalConfig (before .failed 1 .timeout) = true := by decide +kernel

/-- A CANCEL byte where the bound would also be exceeded; an error; a set request. -/
theorem witness_PriorityWithinStep :
    Reads { before .awaitAck 1 (.byte 0x18) with retryCount := 16 } .awaitAck (.byte 0x18)
      ∧ Reads (before .awaitStart 0 .ioError) .awaitStart .ioError
      ∧ cancelNow { before .awaitEotAck 2 (.byte 0x18) with cancelReq := [true] } = true
      ∧ sourceNow { before .sendBlock 1 .timeout with srcAnswers := [.ioError] } = .ioError
      ∧ isTerminal (before .awaitAck 1 .timeout).fsm = false ∧ (before .awaitAck 1 .timeout).calls = []
      ∧ legalConfig (before .awaitAck 1 .timeout) = true := by decide +kernel

/-! ### The machine -/

theorem witness_StepRunsFetchedInstruction :
    (read (.op 0b0101#4 { noArgs with byte := 7 }) = some (.frCmpl 7) ∧ (Instr.frCmpl 7).wellFormed = true)
      ∧ (before .awaitAck 1 (.byte 0x06)).calls = [] ∧ legalConfig (before .awaitAck 1 (.byte 0x06)) = true
      ∧ read (.fsmKey (transitionKey (before .awaitAck 1 (.byte 0x06)))) = some .ackAdv := by decide +kernel

theorem witness_DecodeEncodeRoundTrip :
    (Instr.txFrame 1 0xFE helloPadded 0x74 0x90).wellFormed = true ∧ (Instr.rxOther 0x63).wellFormed = true
      ∧ Instr.ackRetryC.wellFormed = true := by decide +kernel

theorem witness_KeyMatchesOneRow :
    (⟨0x044, 0x3FC, .ackAdv⟩ : KeyRow) ∈ keyRows
      ∧ (⟨0x044, 0x3FC, .ackAdv⟩ : KeyRow).applies 0x045 = true := by decide

/-- Every live state takes a step. -/
theorem witness_EveryLiveStateHasStep :
    isTerminal (before .sendBlock 1 .timeout).fsm = false ∧ (before .sendBlock 1 .timeout).calls = []
      ∧ legalConfig (before .sendBlock 1 .timeout) = true := by decide +kernel

theorem witness_RowRunsOnlyWhenSelected :
    encode .ackAdv = .fsmKey 0x044 ∧ (ran (exec .ackAdv (before .awaitAck 1 (.byte 0x06)))).isSome = true := by decide

/-- A reading, a writing and a cancelled step that answer a next state, with no call waiting. -/
theorem witness_StepFollowsTransitionTable :
    (before .awaitAck 1 .timeout).calls = [] ∧ (ran (step (before .awaitAck 1 .timeout))).isSome = true
      ∧ (ran (step (before .sendEot 2 .timeout))).isSome = true
      ∧ (ran (step { before .retry 1 .timeout with cancelReq := [true] })).isSome = true := by decide +kernel

theorem witness_StepMakesOneChannelOperation :
    (before .awaitStart 0 .timeout).calls = [] ∧ (ran (step (before .awaitStart 0 .timeout))).isSome = true
      ∧ (ran (step { before .sendEot 2 .timeout with wrAnswers := [.error] })).isSome = true := by decide +kernel

/-- "hello" in flight: the buffer caches the padded chunk. -/
def inFlightHello : State :=
  { before .awaitAck 1 (.byte 0x06) with pay := writeBytes [] 0 helloPadded, chunkLen := 5 }

theorem witness_SessionInvariantKept :
    SessionInv inFlightHello ∧ (ran (step inFlightHello)).isSome = true := by
  constructor
  · constructor <;> decide +kernel
  · decide +kernel

theorem witness_SessionInvariantAtReset :
    1 ≤ Params.standard.maxStartPolls ∧ memoryWf [(3, 0x07)] = true := by decide

theorem witness_EverySessionEnds :
    (SessionInv inFlightHello ∧ inFlightHello.calls = [] ∧ legalConfig inFlightHello = true)
      ∧ (before .awaitStart 0 .timeout).fsm = .awaitStart ∧ (before .awaitStart 0 .timeout).pollCount = 0 := by
  refine ⟨⟨witness_SessionInvariantKept.1, ?_⟩, ?_⟩ <;> decide +kernel

theorem witness_EventStreamHasNoInfluence :
    (ran (step (before .awaitAck 1 (.byte 0x15)))).isSome = true := by decide +kernel

theorem witness_SetupFixedOutputsGrow :
    (ran (exec .eotSend (before .sendEot 2 .timeout))).isSome = true := by decide

theorem witness_OnlyResetLeavesFailed :
    (before .failed 1 .timeout).fsm = .failed ∧ (before .done 1 .timeout).fsm = .done
      ∧ (ran (exec .crcInit (before .failed 1 .timeout))).isSome = true
      ∧ (ran (exec (.chRead 1) (before .done 1 .timeout))).isSome = true := by decide

/-- The last index, 127, is in; one more byte is not. -/
theorem witness_PayloadBufferReadsWhatWasWritten :
    memoryWf State.reset.pay = true ∧ 127 + [(0x55 : Byte)].length ≤ 128
      ∧ 128 < 127 + [(0x55 : Byte), 0x66].length := by decide

theorem witness_SequenceCycleSkipsZero : (255 : Byte) ≠ 0 ∧ 0 < 1 ∧ 1 < 255 ∧ 0 < 254 ∧ 254 < 255 := by decide

/-- "hello" sent and acknowledged. -/
def doneHello : State :=
  { before .done 2 .timeout with chunkLen := 5, filePos := 5, bytesSent := 5, blockIndex := 1 }

theorem witness_DoneReportsWholeSource : SessionInv doneHello ∧ doneHello.fsm = .done := by
  constructor
  · constructor <;> decide
  · decide

theorem witness_FailureReportsKindAndSeq :
    ∀ r ∈ [FailReason.noStartSignal, .maxRetriesExceeded, .peerCancelled, .eotNotAcked, .ioError,
        .cancelledLocally],
      { before .failed 1 .timeout with reason := some r }.fsm = .failed
        ∧ { before .failed 1 .timeout with reason := some r }.reason = some r := by decide

end Sys2Proof.Tests
end

section
/-! SUPPORT. The state of a session: what an instruction that answers a next state can do to it. Every instruction but
`RESET` is either a direct operation, which acts outward only, or a transition: external operations (`Outward`) followed
by one of ten register moves (`Move`). The invariants of R38, the growth of the outputs and the silence of the terminal
states follow from that one inversion, `exec_next`. -/

namespace Sys2Proof.Machine

/-! ### The setup is fixed and the outputs grow -/

/-- The parameters and the source are kept, and nothing is taken back of the four outputs (R40, R63, R65, R246). -/
structure Grows (s t : State) : Prop where
  cfg : t.cfg = s.cfg
  src : t.src = s.src
  tx : s.tx <+: t.tx
  events : s.events <+: t.events
  writes : s.writes <+: t.writes
  reads : s.reads <+: t.reads

theorem Grows.trans {s u t : State} (h : Grows s u) (k : Grows u t) : Grows s t where
  cfg := k.cfg.trans h.cfg
  src := k.src.trans h.src
  tx := h.tx.trans k.tx
  events := h.events.trans k.events
  writes := h.writes.trans k.writes
  reads := h.reads.trans k.reads

theorem newSession_grows (s : State) : Grows s (newSession s) := by constructor <;> simp

/-! ### Outward operations -/

/-- `t` is `s` after operations that act outward only: every session register but the engine's `crc` is kept. -/
structure Outward (s t : State) : Prop extends Grows s t where
  fsm : t.fsm = s.fsm
  seq : t.seq = s.seq
  pay : t.pay = s.pay
  chunkLen : t.chunkLen = s.chunkLen
  retryCount : t.retryCount = s.retryCount
  pollCount : t.pollCount = s.pollCount
  filePos : t.filePos = s.filePos
  bytesSent : t.bytesSent = s.bytesSent
  blockIndex : t.blockIndex = s.blockIndex
  reason : t.reason = s.reason

theorem Outward.refl (s : State) : Outward s s := by
  constructor
  · constructor <;> simp
  all_goals rfl

theorem Outward.trans {s u t : State} (h : Outward s u) (k : Outward u t) : Outward s t where
  toGrows := h.toGrows.trans k.toGrows
  fsm := k.fsm.trans h.fsm
  seq := k.seq.trans h.seq
  pay := k.pay.trans h.pay
  chunkLen := k.chunkLen.trans h.chunkLen
  retryCount := k.retryCount.trans h.retryCount
  pollCount := k.pollCount.trans h.pollCount
  filePos := k.filePos.trans h.filePos
  bytesSent := k.bytesSent.trans h.bytesSent
  blockIndex := k.blockIndex.trans h.blockIndex
  reason := k.reason.trans h.reason

/-- What `crc`, the last answer and the waiting calls hold is no part of `Outward`. -/
theorem Outward.set {s t : State} (h : Outward s t) (r : Word16) (a : CallAnswer) (cs : List Call) :
    Outward s { t with crc := r, answer := a, calls := cs } := { h with }

theorem Outward.boundHit {s u : State} (h : Outward s u) : boundHit u = boundHit s := by
  simp [Machine.boundHit, h.retryCount, h.cfg]

theorem Outward.lastPoll {s u : State} (h : Outward s u) : lastPoll u = lastPoll s := by
  simp [Machine.lastPoll, h.pollCount, h.cfg]

theorem emit_outward (e : Event) (s : State) : Outward s (emit e s) := by
  constructor
  · constructor <;> simp
  all_goals rfl

theorem afterCancel_outward (s : State) : Outward s (afterCancel s) := by
  constructor
  · constructor <;> simp
  all_goals rfl

theorem readSource_outward (a n : Nat) (s : State) : Outward s (readSource a n s).2 := by
  constructor
  · constructor <;> simp
  all_goals rfl

theorem readChannel_outward (t : Nat) (s : State) : Outward s (readChannel t s).2 := by
  constructor
  · constructor <;> simp
  all_goals rfl

theorem writeChannel_outward (bs : List Byte) (s : State) : Outward s (writeChannel bs s).2 := by
  have htx : s.tx <+: (writeChannel bs s).2.tx := by
    obtain ⟨n, h⟩ := writeChannel_tx bs s
    exact ⟨_, h.symm⟩
  constructor
  · constructor <;> simp [htx]
  all_goals simp

theorem noteRead_outward (a : ReadAnswer) (s : State) : Outward s (noteRead a s) := by
  cases a with
  | byte b => exact emit_outward _ s
  | timeout | ioError => exact Outward.refl s

theorem afterRead_outward (s : State) : Outward s (afterRead s) :=
  ((afterCancel_outward s).trans (readChannel_outward _ _)).trans (noteRead_outward _ _)

theorem afterSource_outward (s : State) : Outward s (afterSource s) :=
  (afterCancel_outward s).trans (readSource_outward _ _ _)

theorem afterWrite_outward (bs : List Byte) (s : State) : Outward s (writeChannel bs (afterCancel s)).2 :=
  (afterCancel_outward s).trans (writeChannel_outward _ _)

theorem afterFrameWrite_outward (c : List Byte) (s : State) : Outward s (afterFrameWrite c s) :=
  (afterSource_outward s).trans (writeChannel_outward _ _)

/-! ### The register moves of a transition -/

/-- The register writes of a transition that began in `s`, after its external operations led to `u`: one constructor per
way in which the table of R220 writes the registers, under the guard of its rows. -/
inductive Move (s u : State) : State → Prop
  /-- A failure that counts nothing (R183, R184, R193, R196, R199, R203, R206, R209, R212, R215). -/
  | fail (r : FailReason) (hlive : isTerminal s.fsm = false) : Move s u (raiseFailed s r u)
  /-- The last poll failed (R186). -/
  | failPolls (hs : s.fsm = .awaitStart) : Move s u (raiseFailed s .noStartSignal (countPoll u))
  /-- The retries are used up (R198, R211). -/
  | failRetries (r : FailReason) (hlive : isTerminal s.fsm = false) : Move s u (raiseFailed s r (countRetry u))
  /-- One more poll (R185). -/
  | poll (hs : s.fsm = .awaitStart) (hl : lastPoll s = false) : Move s u (finish s .awaitStart .none (countPoll u))
  /-- The start signal (R182). -/
  | go (hs : s.fsm = .awaitStart) : Move s u (finish s .sendBlock .none { u with seq := 1 })
  /-- The first transmission of a chunk (R190, R191). -/
  | transmit (c : List Byte) (hs : s.fsm = .sendBlock) (hc : sourceNow s = .chunk c)
      (he : c.isEmpty = true → firstChunk s = true) :
      Move s u (transmitted c s { u with pay := writeBytes u.pay 0 (payloadOf c u) })
  /-- The source is exhausted (R192). -/
  | endOfSource (hs : s.fsm = .sendBlock) (hc : sourceNow s = .chunk []) (hf : firstChunk s = false) :
      Move s u (finish s .sendEot .none { u with retryCount := 0 })
  /-- A Block is acknowledged (R195). -/
  | advance (hs : s.fsm = .awaitAck) : Move s u (finish s .sendBlock .none (advance u))
  /-- A bad answer within the bound (R197, R210). -/
  | retry (dst : Fsm) (hs : s.fsm = .awaitAck ∧ dst = .retry ∨ s.fsm = .awaitEotAck ∧ dst = .sendEot)
      (hb : boundHit s = false) : Move s u (finish s dst .none (countRetry u))
  /-- Only the state moves on (R202, R205, R208). -/
  | onward (dst : Fsm) (o : EventOutcome)
      (hs : s.fsm = .retry ∧ dst = .awaitAck ∨ s.fsm = .sendEot ∧ dst = .awaitEotAck ∨
        s.fsm = .awaitEotAck ∧ dst = .done) : Move s u (finish s dst o u)

/-- A move writes registers and appends one event, nothing else. -/
theorem Move.grows {s u t : State} (h : Move s u t) : Grows u t := by
  cases h <;> exact ⟨rfl, rfl, List.prefix_rfl, List.prefix_append _ _, List.prefix_rfl, List.prefix_rfl⟩

/-- No transition begins in a terminal state (R216). -/
theorem Move.live {s u t : State} (h : Move s u t) : isTerminal s.fsm = false := by
  cases h with
  | fail _ hlive | failRetries _ hlive => exact hlive
  | failPolls hs | poll hs | go hs | transmit _ hs | endOfSource hs | advance hs => rw [hs]; rfl
  | retry _ hs => obtain ⟨hs, -⟩ | ⟨hs, -⟩ := hs <;> rw [hs] <;> rfl
  | onward _ _ hs => obtain ⟨hs, -⟩ | ⟨hs, -⟩ | ⟨hs, -⟩ := hs <;> rw [hs] <;> rfl

/-- `t` is what a transition from `s` answers: outward operations, then a register move. -/
def Moves (s t : State) : Prop := ∃ u, Outward s u ∧ Move s u t

/-- A row of a reading state: the move is made on the state after the read. -/
theorem moves_of_onRead {st : Fsm} {p : ReadAnswer → Bool} {k : State → State} {s t : State}
    (h : onRead st p k s = .next t)
    (hk : s.fsm = st → p (readNow s) = true → Move s (afterRead s) (k (afterRead s))) : Moves s t := by
  obtain ⟨⟨hs, -, hp⟩, rfl⟩ := onRead_next.1 h
  exact ⟨_, afterRead_outward s, hk hs hp⟩

/-- A row of a writing state: the move is made on the state `u` after the write and what `k` adds outward. -/
theorem moves_of_onWrite {st : Fsm} {bs : List Byte} {res : WriteResult} {k : State → State} {s t : State}
    (h : onWrite st bs res k s = .next t)
    (hk : ∀ u, Outward s u → s.fsm = st → Moves s (k u)) : Moves s t := by
  obtain ⟨⟨hs, -, -⟩, rfl⟩ := onWrite_next.1 h
  exact hk _ (afterWrite_outward bs s) hs

theorem moves_of_onCancel {p : Fsm → Bool} {s t : State} (h : onCancel p s = .next t)
    (hp : ∀ f, p f = true → isTerminal f = false) : Moves s t := by
  obtain ⟨⟨hs, -⟩, rfl⟩ := onCancel_next.1 h
  exact ⟨_, afterCancel_outward s, .fail _ (hp _ hs)⟩

theorem moves_of_transmitChunk {c : List Byte} {s t : State} (h : transmitChunk c s = .next t)
    (hs : s.fsm = .sendBlock) (hc : sourceNow s = .chunk c) (he : c.isEmpty = true → firstChunk s = true) :
    Moves s t := by
  obtain ⟨-, rfl⟩ := (transmitChunk_next (sourceNow_length hc)).1 h
  refine ⟨emit (evTx s.seq 133) (afterFrameWrite c s),
    (afterFrameWrite_outward c s).trans (emit_outward _ _), ?_⟩
  simpa [payloadOf] using Move.transmit (u := emit (evTx s.seq 133) (afterFrameWrite c s)) c hs hc he

theorem moves_of_blockIoerr {s t : State} (h : execBlockIoerr s = .next t) : Moves s t := by
  unfold execBlockIoerr at h
  split_ifs at h with hs
  have hlive : isTerminal s.fsm = false := by rw [hs.1]; rfl
  split at h
  · cases h; exact ⟨_, afterSource_outward s, .fail _ hlive⟩
  · split_ifs at h
    cases h; exact ⟨_, afterFrameWrite_outward _ s, .fail _ hlive⟩

/-- A received-byte row answers its class and acts on nothing else. -/
theorem classified_outward {b : Byte} {c : ControlClass} {s t : State} (h : classified b c s = .next t) :
    Outward s t := by
  unfold classified at h
  split_ifs at h
  cases h; exact (Outward.refl s).set _ _ _

/-- What an instruction other than `RESET` does when it answers a next state. -/
theorem exec_next {i : Instr} {s t : State} (h : exec i s = .next t) (hi : i ≠ .reset) :
    Outward s t ∨ Moves s t := by
  cases i with dsimp only [exec] at h
  | reset => exact absurd rfl hi
  | rxAck | rxNak | rxCan | rxStart | rxOther => exact .inl (classified_outward h)
  | txFrame | txEot | chWrite => cases h; exact .inl ((writeChannel_outward _ s).set _ _ _)
  | srcRead => cases h; exact .inl ((readSource_outward _ _ s).set _ _ _)
  | chRead => cases h; exact .inl ((readChannel_outward _ s).set _ _ _)
  | evtEmit => cases h; exact .inl (emit_outward _ s)
  | crcInit | crcRound | crcByte | crcBlock | frCmpl => cases h; exact .inl ((Outward.refl s).set _ _ _)
  | frPad | frFrame =>
    simp only [execFrPad, execFrFrame] at h
    split_ifs at h
    cases h; exact .inl ((Outward.refl s).set _ _ _)
  | haltDone | haltFailed =>
    simp only [execHaltDone, execHaltFailed] at h
    split_ifs at h
  | cancel => exact .inr (moves_of_onCancel h (by intro f; cases f <;> decide))
  | cancelHi => exact .inr (moves_of_onCancel h (by intro f; cases f <;> decide))
  | startGo => exact .inr (moves_of_onRead h fun hs _ => .go hs)
  | startPoll | startPollAck =>
    exact .inr (moves_of_onRead h fun hs hp => .poll hs (by simpa using (Bool.and_eq_true_iff.1 hp).2))
  | startExhaust | startExhaustAck => exact .inr (moves_of_onRead h fun hs _ => .failPolls hs)
  | startCan | startIoerr | ackCan | ackIoerr | eotackCan | eotackIoerr =>
    exact .inr (moves_of_onRead h fun hs _ => .fail _ (by rw [hs]; rfl))
  | ackExhaust | ackExhaustC | eotackExhaust | eotackExhaustC =>
    exact .inr (moves_of_onRead h fun hs _ => .failRetries _ (by rw [hs]; rfl))
  | ackAdv => exact .inr (moves_of_onRead h fun hs _ => .advance hs)
  | ackRetry | ackRetryC =>
    exact .inr (moves_of_onRead h fun hs hp => .retry _ (.inl ⟨hs, rfl⟩)
      (by simpa using (Bool.and_eq_true_iff.1 hp).2))
  | eotackRetry | eotackRetryC =>
    exact .inr (moves_of_onRead h fun hs hp => .retry _ (.inr ⟨hs, rfl⟩)
      (by simpa using (Bool.and_eq_true_iff.1 hp).2))
  | eotackDone => exact .inr (moves_of_onRead h fun hs _ => .onward _ _ (.inr (.inr ⟨hs, rfl⟩)))
  | retrySend =>
    exact .inr (moves_of_onWrite h fun u hu hs =>
      ⟨_, (hu.trans (emit_outward _ u)).set _ _ _, .onward _ _ (.inl ⟨hs, rfl⟩)⟩)
  | eotSend =>
    exact .inr (moves_of_onWrite h fun u hu hs =>
      ⟨_, hu.trans (emit_outward _ u), .onward _ _ (.inr (.inl ⟨hs, rfl⟩))⟩)
  | retryIoerr | eotIoerr =>
    exact .inr (moves_of_onWrite h fun u hu hs => ⟨u, hu, .fail _ (by rw [hs]; rfl)⟩)
  | blockSend =>
    obtain ⟨hs, -, c, hc, hk⟩ := onChunk_next.1 h
    split_ifs at hk with he
    exact .inr (moves_of_transmitChunk hk hs hc fun h => absurd h he)
  | blockSendEmpty =>
    obtain ⟨hs, -, c, hc, hk⟩ := onChunk_next.1 h
    split_ifs at hk with he
    exact .inr (moves_of_transmitChunk hk hs hc fun _ => (Bool.and_eq_true_iff.1 he).2)
  | blockEof =>
    obtain ⟨hs, -, c, hc, hk⟩ := onChunk_next.1 h
    split_ifs at hk with he
    simp only [Bool.and_eq_true, List.isEmpty_iff, Bool.not_eq_true'] at he
    obtain ⟨rfl, hf⟩ := he
    cases hk
    exact .inr ⟨_, afterSource_outward s, .endOfSource hs hc hf⟩
  | blockIoerr => exact .inr (moves_of_blockIoerr h)

/-! ### Every step keeps the invariants of a session -/

/-- The invariants speak only of what outward operations keep. -/
theorem SessionInv.outward {s t : State} (h : SessionInv s) (k : Outward s t) : SessionInv t := by
  obtain ⟨⟨hcfg, hsrc, -, -, -, -⟩, hfsm, hseq, hpay, hlen, hretry, hpoll, hpos, hsent, hindex, hreason⟩ := k
  cases s
  cases t
  dsimp only at hcfg hsrc hfsm hseq hpay hlen hretry hpoll hpos hsent hindex hreason
  subst hcfg hsrc hfsm hseq hpay hlen hretry hpoll hpos hsent hindex hreason
  exact { h with }

/-- A new session, and the state after reset: no counter has moved. -/
theorem sessionInv_fresh {s : State} (hpolls : 1 ≤ s.cfg.maxStartPolls) (hpay : memoryWf s.pay = true)
    (hfsm : s.fsm = .awaitStart) (hseq : s.seq = 0) (hretry : s.retryCount = 0) (hpoll : s.pollCount = 0)
    (hpos : s.filePos = 0) (hsent : s.bytesSent = 0) (hindex : s.blockIndex = 0) (hreason : s.reason = none) :
    SessionInv s := by
  have hlt : 0 < s.cfg.maxStartPolls := hpolls
  constructor <;> simp [*]

theorem newSession_inv {s : State} (h : SessionInv s) : SessionInv (newSession s) :=
  sessionInv_fresh h.pollsAllowed (by simpa using memoryWf_freePayload s.tick) rfl rfl rfl rfl rfl rfl rfl rfl

/-- In FAILED the two counters may have reached their bounds, and the invariants ask nothing of the current Block. -/
theorem SessionInv.raiseFailed {u : State} (h : SessionInv u) (s : State) (r : FailReason) {p n : Nat}
    (hp : p ≤ u.cfg.maxStartPolls) (hn : n ≤ u.cfg.maxRetries + 1) :
    SessionInv (raiseFailed s r { u with pollCount := p, retryCount := n }) :=
  { h with
    retriesBounded := hn
    pollsBounded := hp
    seqOfBlock := by simp
    retriesLive := by simp [isTerminal]
    pollsLive := by simp [isTerminal]
    reasonIffFailed := by simp
    cached := by simp
    chunkOfCursor := by simp
    unacknowledged := by simp
    allAcknowledged := by simp
    atStart := by simp }

theorem SessionInv.countPoll {u : State} (h : SessionInv u) (hl : lastPoll u = false) : SessionInv (countPoll u) := by
  have hl : u.pollCount + 1 < u.cfg.maxStartPolls := by simpa [lastPoll] using hl
  exact { h with pollsBounded := hl.le, pollsLive := fun _ => hl }

theorem SessionInv.countRetry {u : State} (h : SessionInv u) (hb : boundHit u = false) :
    SessionInv (countRetry u) := by
  have hb : u.retryCount + 1 ≤ u.cfg.maxRetries := by simpa [boundHit] using hb
  exact { h with retriesBounded := Nat.le_succ_of_le hb, retriesLive := fun _ => hb }

/-- A live state has no reason. -/
theorem SessionInv.reason_none {u : State} (h : SessionInv u) (hlive : isTerminal u.fsm = false) :
    u.reason = none := h.reasonIffFailed.2 fun k => by simp [k, isTerminal] at hlive

/-- A step from a live state to one in which no more is asked of the registers. -/
theorem SessionInv.finish {u : State} (h : SessionInv u) (s : State) {d : Fsm} (o : EventOutcome)
    (hlive : isTerminal u.fsm = false) (hd : d ≠ .failed) (hstart : d = .awaitStart → u.fsm = .awaitStart)
    (hdata : inData d → inData u.fsm) (hflight : inFlight d → inFlight u.fsm)
    (hend : inEndPhase d → inEndPhase u.fsm) : SessionInv (finish s d o u) :=
  { h with
    seqOfBlock := fun k => h.seqOfBlock (hdata k)
    retriesLive := fun _ => h.retriesLive hlive
    pollsLive := fun _ => h.pollsLive hlive
    reasonIffFailed := iff_of_true (h.reason_none hlive) hd
    cached := fun k => h.cached (hflight k)
    chunkOfCursor := fun k => h.chunkOfCursor (hflight k)
    unacknowledged := fun k => h.unacknowledged (hflight k)
    allAcknowledged := fun k => h.allAcknowledged (hend k)
    atStart := fun k => h.atStart (hstart k) }

/-- The start signal makes Block 0 current, with number 1 (R182). -/
theorem SessionInv.go {u : State} (h : SessionInv u) (s : State) (hs : u.fsm = .awaitStart) :
    SessionInv (Machine.finish s .sendBlock .none { u with seq := 1 }) := by
  have hlive : isTerminal u.fsm = false := by rw [hs]; rfl
  exact { h with
    seqOfBlock := fun _ => by simp [(h.atStart hs).1]
    retriesLive := fun _ => h.retriesLive hlive
    pollsLive := fun _ => h.pollsLive hlive
    reasonIffFailed := by simp [h.reason_none hlive]
    cached := by simp
    chunkOfCursor := by simp
    unacknowledged := by simp
    allAcknowledged := by simp
    atStart := by simp }

/-- A chunk that is not empty, and the first one even when it is, belongs to a Block of the source (R226). -/
theorem SessionInv.block_of_chunk {u : State} (h : SessionInv u)
    (hc : (u.src.drop u.filePos).take 128 = [] → u.blockIndex = 0) : u.blockIndex < blocksOf u := by
  have hpos := h.cursorOfBlock
  rw [blocksOf_eq]
  by_cases he : (u.src.drop u.filePos).take 128 = []
  · have hfirst := hc he
    omega
  · have hbefore : u.filePos < u.src.length := by simpa using he
    omega

/-- The first transmission caches the padded chunk (R190, R191). -/
theorem SessionInv.transmitted {u : State} (h : SessionInv u) (s : State) {c : List Byte} (hs : u.fsm = .sendBlock)
    (hc : c = (u.src.drop u.filePos).take 128) (he : c = [] → u.blockIndex = 0) :
    SessionInv (transmitted c s { u with pay := writeBytes u.pay 0 (payloadOf c u) }) := by
  have hlive : isTerminal u.fsm = false := by rw [hs]; rfl
  have hlen : c.length = min 128 (u.src.length - u.filePos) := by rw [hc]; simp
  have hchunk : (u.src.drop u.filePos).take c.length = c := by
    rw [hc, List.take_eq_take_iff]; simp
  have hwidth : (BitVec.ofNat 8 c.length).toNat = c.length := by simp; omega
  have hpad : (payloadOf c u).length = blockLen := padChunk_length (by simp [blockLen]; omega)
  have hread : readBytes (writeBytes u.pay 0 (payloadOf c u)) 0 blockLen = payloadOf c u := by
    conv_lhs => rw [← hpad]
    exact readBytes_writeBytes h.payCanonical (by simp [hpad])
  have hblock := h.block_of_chunk (hc ▸ he)
  exact { h with
    seqOfBlock := fun _ => h.seqOfBlock (.inl hs)
    retriesBounded := Nat.zero_le _
    retriesLive := fun _ => Nat.zero_le _
    pollsLive := fun _ => h.pollsLive hlive
    reasonIffFailed := by simp [h.reason_none hlive]
    cached := fun _ => by
      simp only [cachedPayload, transmitted_pay, hread, transmitted_chunkLen, hwidth, transmitted_src,
        transmitted_filePos, transmitted_cfg]
      rw [hchunk, payloadOf, padChunk, blockLen]
    chunkOfCursor := fun _ => hwidth.trans hlen
    unacknowledged := fun _ => hblock
    allAcknowledged := by simp
    atStart := by simp
    payCanonical := memoryWf_writeBytes h.payCanonical (by simp [hpad]) }

/-- An empty chunk after the first means that every Block is acknowledged (R192). -/
theorem SessionInv.endOfSource {u : State} (h : SessionInv u) (s : State) (hs : u.fsm = .sendBlock)
    (hc : [] = (u.src.drop u.filePos).take 128) (hf : u.blockIndex ≠ 0) :
    SessionInv (Machine.finish s .sendEot .none { u with retryCount := 0 }) := by
  have hlive : isTerminal u.fsm = false := by rw [hs]; rfl
  have hall : u.blockIndex = blocksOf u := by
    have hpos := h.cursorOfBlock
    have hle := h.blocksBounded
    have hend : u.src.length ≤ u.filePos := by simpa using hc.symm
    rw [blocksOf_eq] at hle ⊢
    omega
  exact { h with
    seqOfBlock := by simp
    retriesBounded := Nat.zero_le _
    retriesLive := fun _ => Nat.zero_le _
    pollsLive := fun _ => h.pollsLive hlive
    reasonIffFailed := by simp [h.reason_none hlive]
    cached := by simp
    chunkOfCursor := by simp
    unacknowledged := by simp
    allAcknowledged := fun _ => hall
    atStart := by simp }

/-- An acknowledgement moves the cursor, the index and the number by one Block together (R195). -/
theorem SessionInv.advance {u : State} (h : SessionInv u) (s : State) (hs : u.fsm = .awaitAck) :
    SessionInv (Machine.finish s .sendBlock .none (advance u)) := by
  have hlive : isTerminal u.fsm = false := by rw [hs]; rfl
  have hchunk := h.chunkOfCursor (.inl hs)
  have hpos := h.cursorOfBlock
  have hseq := h.seqOfBlock (.inr (.inl hs))
  exact { h with
    bytesAreCursor := congrArg (· + u.chunkLen.toNat) h.bytesAreCursor
    cursorOfBlock := by simp; omega
    seqOfBlock := fun _ => by
      rw [finish_seq, advance_seq, nextSeq_toNat, finish_blockIndex, advance_blockIndex]
      split_ifs <;> omega
    retriesLive := fun _ => h.retriesLive hlive
    pollsLive := fun _ => h.pollsLive hlive
    reasonIffFailed := by simp [h.reason_none hlive]
    cached := by simp
    chunkOfCursor := by simp
    blocksBounded := h.unacknowledged (.inl hs)
    unacknowledged := by simp
    allAcknowledged := by simp
    atStart := by simp }

/-- Every register move keeps the invariants. -/
theorem Move.keeps_inv {s u t : State} (hu : Outward s u) (hs : SessionInv s) (h : Move s u t) : SessionInv t := by
  have hinv : SessionInv u := hs.outward hu
  cases h with
  | fail r hlive => exact hinv.raiseFailed s r hinv.pollsBounded hinv.retriesBounded
  | failPolls hf =>
    exact hinv.raiseFailed s _ (hinv.pollsLive (by rw [hu.fsm, hf]; rfl)) hinv.retriesBounded
  | failRetries r hlive =>
    exact hinv.raiseFailed s r hinv.pollsBounded (Nat.succ_le_succ (hinv.retriesLive (hu.fsm ▸ hlive)))
  | poll hf hl =>
    exact (hinv.countPoll (hu.lastPoll.trans hl)).finish s _ (by simp [hu.fsm, hf, isTerminal]) (by simp)
      (by simp [hu.fsm, hf]) (by simp) (by simp) (by simp)
  | go hf => exact hinv.go s (hu.fsm.trans hf)
  | transmit c hf hc he =>
    refine hinv.transmitted s (hu.fsm.trans hf) ?_ fun k => ?_
    · rw [hu.src, hu.filePos]; exact sourceNow_chunk hc
    · simpa [firstChunk, hu.blockIndex] using he (List.isEmpty_iff.2 k)
  | endOfSource hf hc hne =>
    refine hinv.endOfSource s (hu.fsm.trans hf) ?_ ?_
    · rw [hu.src, hu.filePos]; exact sourceNow_chunk hc
    · simpa [firstChunk, hu.blockIndex] using hne
  | advance hf => exact hinv.advance s (hu.fsm.trans hf)
  | retry dst hf hb =>
    have hcount := hinv.countRetry (hu.boundHit.trans hb)
    obtain ⟨hf, rfl⟩ | ⟨hf, rfl⟩ := hf <;>
      exact hcount.finish s _ (by simp [hu.fsm, hf, isTerminal]) (by simp) (by simp)
        (by simp [hu.fsm, hf, inData]) (by simp [hu.fsm, hf, inFlight]) (by simp [hu.fsm, hf, inEndPhase])
  | onward dst o hf =>
    obtain ⟨hf, rfl⟩ | ⟨hf, rfl⟩ | ⟨hf, rfl⟩ := hf <;>
      exact hinv.finish s _ (by simp [hu.fsm, hf, isTerminal]) (by simp) (by simp)
        (by simp [hu.fsm, hf, inData]) (by simp [hu.fsm, hf, inFlight]) (by simp [hu.fsm, hf, inEndPhase])

/-- Every instruction keeps the invariants. -/
theorem exec_keeps_inv {i : Instr} {s t : State} (hs : SessionInv s) (h : exec i s = .next t) : SessionInv t := by
  by_cases hi : i = .reset
  · subst hi; cases h; exact newSession_inv hs
  · obtain hout | ⟨u, hu, hmove⟩ := exec_next h hi
    · exact hs.outward hout
    · exact hmove.keeps_inv hu hs

/-- No instruction changes the setup or takes back output. -/
theorem exec_grows {i : Instr} {s t : State} (h : exec i s = .next t) : Grows s t := by
  by_cases hi : i = .reset
  · subst hi; cases h; exact newSession_grows s
  · obtain hout | ⟨u, hu, hmove⟩ := exec_next h hi
    · exact hout.toGrows
    · exact hu.toGrows.trans hmove.grows

/-- In a terminal state every instruction but `RESET` acts outward only. -/
theorem exec_terminal_outward {i : Instr} {s t : State} (hs : isTerminal s.fsm = true) (hi : i ≠ .reset)
    (h : exec i s = .next t) : Outward s t := by
  obtain hout | ⟨u, -, hmove⟩ := exec_next h hi
  · exact hout
  · simp [hmove.live] at hs

/-! ### The obligations -/

/-- Settles O47: a step executes one instruction, after taking its call from the queue, which is outward. -/
theorem sessionInvariantKept : Obligations.SessionInvariantKept := by
  intro s t hs h
  obtain ⟨i, u, -, hexec, ⟨-, rfl, -⟩ | ⟨c, cs, -, rfl, -⟩⟩ := step_next h
  · exact exec_keeps_inv hs hexec
  · exact exec_keeps_inv (hs.outward ((Outward.refl s).set _ _ cs)) hexec

/-- Settles O52, by the inversion of `exec`. -/
theorem setupFixedOutputsGrow : Obligations.SetupFixedOutputsGrow := by
  intro i s t h
  obtain ⟨hcfg, hsrc, ⟨bs, htx⟩, ⟨es, hev⟩, ⟨ws, hw⟩, ⟨rs, hr⟩⟩ := exec_grows h
  exact ⟨hcfg, hsrc, ⟨bs, htx.symm⟩, ⟨es, hev.symm⟩, ⟨ws, hw.symm⟩, ⟨rs, hr.symm⟩⟩

/-- Settles O53: only direct operations are left in a terminal state. -/
theorem onlyResetLeavesFailed : Obligations.OnlyResetLeavesFailed := by
  intro i s t hs hi h
  have hout : Outward s t := exec_terminal_outward (by simpa [isTerminal, or_comm] using hs) hi h
  exact ⟨hout.fsm, hout.reason, hout.seq, hout.bytesSent, hout.blockIndex, hout.retryCount⟩

/-- Settles O48: the reset state is a fresh session whatever the open registers hold. -/
theorem sessionInvariantAtReset : Obligations.SessionInvariantAtReset :=
  ⟨sessionInv_fresh (by decide) rfl rfl rfl rfl rfl rfl rfl rfl rfl,
   fun _ _ _ _ hpolls hpay => sessionInv_fresh hpolls hpay rfl rfl rfl rfl rfl rfl rfl rfl⟩

/-- Settles O49, by the definition of the reset state. -/
theorem resetRegisterValues : Obligations.ResetRegisterValues :=
  ⟨rfl, rfl, rfl, rfl, rfl, rfl, rfl, rfl, rfl⟩

end Sys2Proof.Machine
end

section
/-! SUPPORT. The memories of the block: the payload buffer, the source and the two streams of the channel. A read or a write
of one of them keeps every session register, and a transition does at most one channel operation, of the kind its state
makes (`OneChannelOperation`), because what follows its operation is quiet on the channel. -/

namespace Sys2Proof.Machine

/-! ### The payload buffer -/

theorem writePay_within {a : Nat} {v : List Byte} {s : State} (ha : a + v.length ≤ blockLen) :
    writePay a v s = some { s with pay := writeBytes s.pay a v } := if_pos ha

theorem writePay_beyond {a : Nat} {v : List Byte} {s : State} (ha : blockLen < a + v.length) :
    writePay a v s = none := if_neg ha.not_ge

theorem readPay_within {a n : Nat} {s : State} (ha : a + n ≤ blockLen) :
    readPay a n s = some (readBytes s.pay a n) := if_pos ha

theorem readPay_beyond {a n : Nat} {s : State} (ha : blockLen < a + n) : readPay a n s = none := if_neg ha.not_ge

/-- A write leaves every index before and after its bytes alone (R62). -/
theorem readByte_writeBytes_outside {m : List Host.Cell} (h : memoryWf m = true) {a x : Nat} {v : List Byte}
    (ha : a + v.length ≤ blockLen) (hx : x < a ∨ a + v.length ≤ x) :
    readByte (writeBytes m a v) x = readByte m x := by
  rw [readByte_writeBytes h ha]
  obtain hx | hx := hx
  · rw [if_neg hx.not_ge]
  · have hend : v[x - a]? = none := List.getElem?_eq_none (by omega)
    rw [hend, Option.getD_none, ite_self]

/-! ### What a direct call keeps -/

/-- An outward operation that keeps the engine's register writes no register. -/
theorem Outward.onlyRegs {s t : State} (h : Outward s t) (hcrc : t.crc = s.crc) : OnlyRegs [] s t := by
  intro r _
  cases r with
  | crc => exact hcrc
  | pay => exact fun a => by rw [h.pay]
  | fsm => exact h.fsm
  | seq => exact h.seq
  | chunkLen => exact h.chunkLen
  | retryCount => exact h.retryCount
  | pollCount => exact h.pollCount
  | filePos => exact h.filePos
  | bytesSent => exact h.bytesSent
  | blockIndex => exact h.blockIndex
  | reason => exact h.reason

/-! ### The source -/

/-- A source read gives the slice or an error (R64). -/
theorem readSource_cases (a n : Nat) (s : State) :
    (readSource a n s).1 = .chunk ((s.src.drop a).take n) ∨ (readSource a n s).1 = .ioError := by
  unfold readSource
  cases s.srcAnswers.headD (Config.freeSource s.tick) with
  | ok => exact .inl rfl
  | ioError => exact .inr rfl

theorem readSource_ok {a n : Nat} {s : State} {xs : List SourceAnswer} (h : s.srcAnswers = .ok :: xs) :
    (readSource a n s).1 = .chunk ((s.src.drop a).take n) := by simp [readSource, h]

theorem readSource_ioError {a n : Nat} {s : State} {xs : List SourceAnswer} (h : s.srcAnswers = .ioError :: xs) :
    (readSource a n s).1 = .ioError := by simp [readSource, h]

/-- The slice holds, at each of its indices, the source's byte `a` further on (R64). -/
theorem getD_slice {src : List Byte} {a n i : Nat} (hi : i < ((src.drop a).take n).length) :
    ((src.drop a).take n).getD i 0 = src.getD (a + i) 0 := by
  have hn : i < n := by simp at hi; omega
  simp [List.getD_eq_getElem?_getD, hn]

/-- A direct source read that answers no error answers the slice. -/
theorem sourceAnswer_readSource {a n : Nat} {s : State} (h : sourceAnswer (readSource a n s).1 ≠ .ioError) :
    sourceAnswer (readSource a n s).1 = .bytes ((s.src.drop a).take n) := by
  obtain hr | hr := readSource_cases a n s <;> rw [hr] at h ⊢
  · rfl
  · exact absurd rfl h

/-! ### The channel -/

theorem readChannel_scheduled {n : Nat} {s : State} {a : ReadAnswer} {xs : List ReadAnswer} (h : s.rx = a :: xs) :
    (readChannel n s).1 = a ∧ (readChannel n s).2.rx = xs := by simp [readChannel, h]

theorem writeChannel_full {bs : List Byte} {s : State} {xs : List WriteAnswer} (h : s.wrAnswers = .full :: xs) :
    (writeChannel bs s).1 = .ok := by simp [writeChannel, h]

theorem writeChannel_short_or_error {bs : List Byte} {s : State} {xs : List WriteAnswer}
    (h : s.wrAnswers = .short :: xs ∨ s.wrAnswers = .error :: xs) : (writeChannel bs s).1 = .ioError := by
  obtain h | h := h <;> simp [writeChannel, h]

theorem wroteOnce_of_ok {bs : List Byte} {s : State} (h : (writeChannel bs s).1 = .ok) :
    WroteOnce bs s (writeChannel bs s).2 := by
  obtain ⟨-, hw⟩ | ⟨he, -⟩ := writeChannel_cases bs s
  · exact hw
  · simp [h] at he

theorem writeFailed_of_ioError {bs : List Byte} {s : State} (h : (writeChannel bs s).1 = .ioError) :
    WriteFailed bs s (writeChannel bs s).2 := by
  obtain ⟨ho, -⟩ | ⟨-, hw⟩ := writeChannel_cases bs s
  · simp [h] at ho
  · exact hw

theorem readAnswer_cases (a : ReadAnswer) :
    (∃ b, readAnswer a = .byte b) ∨ readAnswer a = .timeout ∨ readAnswer a = .ioError := by
  cases a with
  | byte b => exact .inl ⟨b, rfl⟩
  | timeout => exact .inr (.inl rfl)
  | ioError => exact .inr (.inr rfl)

theorem writeAnswer_eq_ok {r : WriteResult} : writeAnswer r = .ok ↔ r = .ok := by cases r <;> simp [writeAnswer]

theorem writeAnswer_eq_ioError {r : WriteResult} : writeAnswer r = .ioError ↔ r = .ioError := by
  cases r <;> simp [writeAnswer]

/-! ### One channel operation a transition -/

/-- From `s` to `t` at most one channel operation was made: none, a read in a reading state, or a write in a writing state
(R77, R78, R83). -/
def OneChannelOperation (s t : State) : Prop :=
  (NoRead s t ∧ NoWrite s t) ∨
  (ReadOnce (stateTimeout s) s t ∧ NoWrite s t ∧
    (s.fsm = .awaitStart ∨ s.fsm = .awaitAck ∨ s.fsm = .awaitEotAck)) ∨
  (NoRead s t ∧ (∃ bs, WroteOnce bs s t ∨ WriteFailed bs s t) ∧
    (s.fsm = .sendBlock ∨ s.fsm = .retry ∨ s.fsm = .sendEot))

/-- Nothing is done on the channel. -/
def Quiet (s t : State) : Prop := NoRead s t ∧ NoWrite s t

theorem Quiet.oneChannelOperation {s t : State} (h : Quiet s t) : OneChannelOperation s t := .inl h

/-- What is quiet after the operation adds none. -/
theorem OneChannelOperation.quiet {s u t : State} (h : OneChannelOperation s u) (k : Quiet u t) :
    OneChannelOperation s t := by
  obtain ⟨⟨hreads, hrx⟩, hwrites, htx, hanswers⟩ := k
  simpa only [OneChannelOperation, NoRead, NoWrite, ReadOnce, WroteOnce, WriteFailed, hreads, hrx, hwrites, htx,
    hanswers] using h

/-- The read of a reading state, its `EV_RX` included. -/
theorem afterRead_oneChannelOperation {s : State}
    (hs : s.fsm = .awaitStart ∨ s.fsm = .awaitAck ∨ s.fsm = .awaitEotAck) : OneChannelOperation s (afterRead s) :=
  .inr (.inl ⟨by simp [ReadOnce], by simp [NoWrite], hs⟩)

/-- The write of a writing state, after what is quiet. -/
theorem write_oneChannelOperation {s u : State} (bs : List Byte) (hu : Quiet s u)
    (hs : s.fsm = .sendBlock ∨ s.fsm = .retry ∨ s.fsm = .sendEot) :
    OneChannelOperation s (writeChannel bs u).2 := by
  obtain ⟨⟨hreads, hrx⟩, hwrites, htx, hanswers⟩ := hu
  refine .inr (.inr ⟨by simp [NoRead, hreads, hrx], ⟨bs, ?_⟩, hs⟩)
  refine (writeChannel_cases bs u).imp (fun h => ?_) fun h => ?_
  · simpa only [WroteOnce, hwrites, htx, hanswers] using h.2
  · simpa only [WriteFailed, hwrites, htx, hanswers] using h.2

theorem afterCancel_quiet (s : State) : Quiet s (afterCancel s) := ⟨⟨rfl, rfl⟩, rfl, rfl, rfl⟩

theorem afterSource_quiet (s : State) : Quiet s (afterSource s) := ⟨⟨rfl, rfl⟩, rfl, rfl, rfl⟩

/-- A row of a reading state makes its one read; the registers and the last event are quiet. -/
theorem onRead_oneChannelOperation {st : Fsm} {p : ReadAnswer → Bool} {k : State → State} {s t : State}
    (h : onRead st p k s = .next t) (hst : st = .awaitStart ∨ st = .awaitAck ∨ st = .awaitEotAck)
    (hk : ∀ u, Quiet u (k u)) : OneChannelOperation s t := by
  obtain ⟨⟨rfl, -, -⟩, rfl⟩ := onRead_next.1 h
  exact (afterRead_oneChannelOperation hst).quiet (hk _)

/-- A row of RETRY or SEND_EOT makes its one write. -/
theorem onWrite_oneChannelOperation {st : Fsm} {bs : List Byte} {res : WriteResult} {k : State → State} {s t : State}
    (h : onWrite st bs res k s = .next t) (hst : st = .sendBlock ∨ st = .retry ∨ st = .sendEot)
    (hk : ∀ u, Quiet u (k u)) : OneChannelOperation s t := by
  obtain ⟨⟨rfl, -, -⟩, rfl⟩ := onWrite_next.1 h
  exact (write_oneChannelOperation bs (afterCancel_quiet s) hst).quiet (hk _)

/-- A cancellation makes no channel operation (R215). -/
theorem onCancel_oneChannelOperation {p : Fsm → Bool} {s t : State} (h : onCancel p s = .next t) :
    OneChannelOperation s t := by
  obtain ⟨-, rfl⟩ := onCancel_next.1 h
  exact (afterCancel_quiet s).oneChannelOperation.quiet ⟨⟨rfl, rfl⟩, rfl, rfl, rfl⟩

/-- A frame write of SEND_BLOCK, whatever its result. -/
theorem afterFrameWrite_oneChannelOperation {s : State} (c : List Byte) (hs : s.fsm = .sendBlock) :
    OneChannelOperation s (afterFrameWrite c s) :=
  write_oneChannelOperation _ (afterSource_quiet s) (.inl hs)

theorem transmitChunk_oneChannelOperation {c : List Byte} {s t : State} (h : transmitChunk c s = .next t)
    (hs : s.fsm = .sendBlock) (hc : sourceNow s = .chunk c) : OneChannelOperation s t := by
  obtain ⟨-, rfl⟩ := (transmitChunk_next (sourceNow_length hc)).1 h
  exact (afterFrameWrite_oneChannelOperation c hs).quiet ⟨⟨rfl, rfl⟩, rfl, rfl, rfl⟩

/-- `BLOCK.IOERR` makes no channel operation when the source failed, and the frame's write otherwise (R193). -/
theorem blockIoerr_oneChannelOperation {s t : State} (h : execBlockIoerr s = .next t) : OneChannelOperation s t := by
  unfold execBlockIoerr at h
  split_ifs at h with hs
  split at h
  · cases h
    exact (afterSource_quiet s).oneChannelOperation.quiet ⟨⟨rfl, rfl⟩, rfl, rfl, rfl⟩
  · split_ifs at h
    cases h
    exact (afterFrameWrite_oneChannelOperation _ hs.1).quiet ⟨⟨rfl, rfl⟩, rfl, rfl, rfl⟩

/-- The key table selects transition rows only (R113). -/
theorem encode_of_decodeKey {k : BitVec 10} {i : Instr} (h : decodeKey k = .ok i) : ∃ k', encode i = .fsmKey k' := by
  have hrows : ∀ r ∈ keyRows, ∃ k', encode r.instr = .fsmKey k' := by
    simp [keyRows, terminalRows, startRows, blockRows, ackRows, retryEotRows, eotAckRows, encode]
  unfold decodeKey at h
  split at h
  next r hr => cases h; exact hrows r (List.mem_of_find?_eq_some hr)
  next => cases h

/-- A transition row makes at most one channel operation. -/
theorem transition_oneChannelOperation {i : Instr} {k : BitVec 10} {s t : State} (hk : encode i = .fsmKey k)
    (h : exec i s = .next t) : OneChannelOperation s t := by
  cases i with dsimp only [exec] at h
  | rxAck | rxNak | rxCan | rxStart | rxOther | txFrame | txEot | crcInit | crcRound | crcByte | crcBlock | frPad
  | frCmpl | frFrame | srcRead | chRead | chWrite | reset | evtEmit => cases hk
  | haltDone | haltFailed =>
    simp only [execHaltDone, execHaltFailed] at h
    split_ifs at h
  | cancel | cancelHi => exact onCancel_oneChannelOperation h
  | startGo | startCan | startIoerr | startPoll | startPollAck | startExhaust | startExhaustAck
  | ackAdv | ackCan | ackRetry | ackRetryC | ackExhaust | ackExhaustC | ackIoerr
  | eotackDone | eotackCan | eotackRetry | eotackRetryC | eotackExhaust | eotackExhaustC | eotackIoerr =>
    exact onRead_oneChannelOperation h (by decide) fun _ => ⟨⟨rfl, rfl⟩, rfl, rfl, rfl⟩
  | retrySend | retryIoerr | eotSend | eotIoerr =>
    exact onWrite_oneChannelOperation h (by decide) fun _ => ⟨⟨rfl, rfl⟩, rfl, rfl, rfl⟩
  | blockSend | blockSendEmpty =>
    obtain ⟨hs, -, c, hc, hsend⟩ := onChunk_next.1 h
    split_ifs at hsend
    exact transmitChunk_oneChannelOperation hsend hs hc
  | blockEof =>
    obtain ⟨-, -, c, -, hend⟩ := onChunk_next.1 h
    split_ifs at hend
    cases hend
    exact (afterSource_quiet s).oneChannelOperation.quiet ⟨⟨rfl, rfl⟩, rfl, rfl, rfl⟩
  | blockIoerr => exact blockIoerr_oneChannelOperation h

/-! ### The obligations -/

/-- Settles O46: a step with no call waiting runs the transition row its key selects. -/
theorem stepMakesOneChannelOperation : Obligations.StepMakesOneChannelOperation := by
  intro s t hcalls h
  obtain ⟨i, u, -, hexec, ⟨-, rfl, hdecode⟩ | ⟨c, cs, hc, -⟩⟩ := step_next h
  · obtain ⟨k, hk⟩ := encode_of_decodeKey hdecode
    exact transition_oneChannelOperation hk hexec
  · simp [hcalls] at hc

/-- Settles O54, by the laws of the buffer's cells. -/
theorem payloadBufferReadsWhatWasWritten : Obligations.PayloadBufferReadsWhatWasWritten := by
  intro s a v hwf
  refine ⟨fun ha => ⟨_, writePay_within ha, ?_, memoryWf_writeBytes hwf ha, fun x hx => ?_, rfl⟩,
    fun ha => ⟨writePay_beyond ha, readPay_beyond ha⟩⟩
  · rw [readPay_within ha, readBytes_writeBytes hwf ha]
  · exact readByte_writeBytes_outside hwf ha hx

/-- Settles O14: the answer is an error or a slice that depends on the source alone. -/
theorem sourceReadGivesSlice : Obligations.SourceReadGivesSlice := by
  intro a n s
  have hout := readSource_outward a n s
  refine ⟨_, rfl, ?_, fun xs hxs => ?_, fun xs hxs => ?_, fun u v hsrc hv hva hta => ?_,
    (hout.set _ _ _).onlyRegs rfl, ⟨rfl, rfl⟩, ⟨rfl, rfl, rfl⟩, rfl, rfl, rfl⟩
  · refine or_iff_not_imp_left.2 fun h => ⟨_, sourceAnswer_readSource h, by simp, fun i hi => getD_slice hi⟩
  · simp [readSource_ok hxs, sourceAnswer, hxs]
  · simp [readSource_ioError hxs, sourceAnswer, hxs]
  · cases hv
    exact (sourceAnswer_readSource hva).trans (by rw [hsrc]; exact (sourceAnswer_readSource hta).symm)

/-- Settles O15: the answer stands first in `RX`, or is free. -/
theorem channelReadConsumesOldest : Obligations.ChannelReadConsumesOldest := by
  intro n s
  obtain ⟨hread, hwrite⟩ := readChannel_once n s
  have hfirst : ∀ a xs, s.rx = a :: xs →
      readAnswer (readChannel n s).1 = readAnswer a ∧ (readChannel n s).2.rx = xs := fun a xs h =>
    ⟨congrArg _ (readChannel_scheduled h).1, (readChannel_scheduled h).2⟩
  exact ⟨_, rfl, rfl, readAnswer_cases _, fun b => hfirst (.byte b), hfirst .timeout, hfirst .ioError, hread, hwrite,
    ((readChannel_outward n s).set _ _ _).onlyRegs rfl, rfl, rfl, rfl⟩

/-- Settles O16: the two results of a write, each with what has reached `TX`. -/
theorem channelWriteAllOrError : Obligations.ChannelWriteAllOrError := by
  intro bs s
  have hok : (writeChannel bs s).1 = .ok →
      writeAnswer (writeChannel bs s).1 = .ok ∧ WroteOnce bs s (writeChannel bs s).2 := fun h =>
    ⟨writeAnswer_eq_ok.2 h, wroteOnce_of_ok h⟩
  have herror : (writeChannel bs s).1 = .ioError →
      writeAnswer (writeChannel bs s).1 = .ioError ∧ WriteFailed bs s (writeChannel bs s).2 := fun h =>
    ⟨writeAnswer_eq_ioError.2 h, writeFailed_of_ioError h⟩
  exact ⟨_, rfl, (writeChannel_cases bs s).imp (fun h => hok h.1) fun h => herror h.1, writeAnswer_eq_ok,
    fun xs h => hok (writeChannel_full h), fun xs h => herror (writeChannel_short_or_error h),
    writeChannel_noRead bs s, ((writeChannel_outward bs s).set _ _ _).onlyRegs (writeChannel_crc bs s),
    writeChannel_events bs s, writeChannel_cfg bs s, writeChannel_src bs s⟩

end Sys2Proof.Machine
end

section
/-! SUPPORT. The encodings of the opcode table: the decoder gives back what the encoder wrote, no transition key matches two
rows, and the rows' own checks agree with the keys. The last is proved once per shape of a transition
(`selected_of_onRead`, `selected_of_onWrite`, `selected_of_onCancel`, and the chunk of SEND_BLOCK); that a live state takes
a step is then that some row runs in it, since the row that runs is the one its key selects. -/

namespace Sys2Proof.Machine

/-! ### Bytes and frames -/

theorem classify_other {b : Byte} (hack : b ≠ 0x06) (hnak : b ≠ 0x15) (hcan : b ≠ 0x18) (hstart : b ≠ 0x43) :
    classify b = .other :=
  (if_neg hack).trans ((if_neg hnak).trans ((if_neg hcan).trans (if_neg hstart)))

/-- A byte of no named class decodes to the default row (R114). -/
theorem decode_rxByte_other {b : Byte} (h : classify b = .other) : decode (.rxByte b) = .ok (.rxOther b) := by
  simp [decode, decodeRxByte, h]

theorem classified_runs {b : Byte} {c : ControlClass} (h : classify b = c) (s : State) :
    classified b c s = .next { s with answer := .cls c } := if_pos h

/-- The decoder cuts a laid-out frame where the layout joined it (R101). -/
theorem decodeTxFrame_layFrame {p : List Byte} (hp : p.length = blockLen) (q cmpl hi lo : Byte) :
    decodeTxFrame (layFrame q cmpl p hi lo) = .ok (.txFrame q cmpl p hi lo) := by
  simp [layFrame, decodeTxFrame, ← hp]

/-- A direct transmission is one write, and its answer is the write's result (R67, R70). -/
theorem transmit_one_write (bs : List Byte) (s : State) :
    ∃ t, transmit bs s = .next t ∧ t.writes = s.writes ++ [bs] ∧
      ((writeChannel bs s).1 = .ok → t.answer = .ok ∧ t.tx = s.tx ++ bs) ∧
      ((writeChannel bs s).1 = .ioError → t.answer = .ioError ∧ ∃ n, t.tx = s.tx ++ bs.take n) ∧
      OnlyRegs [] s t ∧ NoRead s t ∧ t.events = s.events ∧ t.cfg = s.cfg ∧ t.src = s.src :=
  ⟨_, rfl, writeChannel_writes bs s,
    fun h => ⟨writeAnswer_eq_ok.2 h, writeChannel_tx_ok h⟩,
    fun h => ⟨writeAnswer_eq_ioError.2 h, _, writeChannel_tx_error h⟩,
    ((writeChannel_outward bs s).set _ _ _).onlyRegs (writeChannel_crc bs s), writeChannel_noRead bs s,
    writeChannel_events bs s, writeChannel_cfg bs s, writeChannel_src bs s⟩

/-! ### Transition keys -/

/-- Two rows that match one key agree on every bit that both of them test. -/
theorem KeyRow.bits_agree {k : BitVec 10} {r₁ r₂ : KeyRow} (h₁ : r₁.applies k = true) (h₂ : r₂.applies k = true) :
    r₁.bits &&& r₂.mask = r₂.bits &&& r₁.mask := by
  simp only [KeyRow.applies, beq_iff_eq] at h₁ h₂
  rw [← h₁, ← h₂, BitVec.and_assoc, BitVec.and_assoc, BitVec.and_comm r₁.mask]

/-- Any two different rows of the table differ in a bit that both of them test (R113). -/
theorem keyRows_separated :
    ∀ r₁ ∈ keyRows, ∀ r₂ ∈ keyRows, r₁.bits &&& r₂.mask = r₂.bits &&& r₁.mask → r₁ = r₂ := by decide

/-! ### The key of a state, by what the step does -/

/-- The condition bit in the key of reading state `st` (R33, R113). -/
def readCond (st : Fsm) (s : State) : Bool :=
  match st with
  | .awaitStart => lastPoll s
  | .awaitAck | .awaitEotAck => boundHit s
  | .sendBlock | .retry | .sendEot | .done | .failed => false

theorem transitionKey_cancel {s : State} (hlive : isTerminal s.fsm = false) (hc : cancelNow s = true) :
    transitionKey s = mkKey true false s.fsm .none false false := by
  simp [transitionKey, hlive, hc]

theorem transitionKey_read {st : Fsm} {s : State} (hst : st = .awaitStart ∨ st = .awaitAck ∨ st = .awaitEotAck)
    (hs : s.fsm = st) (hc : cancelNow s = false) :
    transitionKey s = readKey st (readNow s) (readCond st s) := by
  obtain rfl | rfl | rfl := hst <;> simp [transitionKey, readCond, isTerminal, hs, hc]

theorem transitionKey_sendBlock {s : State} (hs : s.fsm = .sendBlock) (hc : cancelNow s = false) :
    transitionKey s = blockKey s := by
  simp [transitionKey, isTerminal, hs, hc]

theorem transitionKey_retry {s : State} (hs : s.fsm = .retry) (hc : cancelNow s = false) :
    transitionKey s = writeKey .retry (writeChannel (retryFrame s) (afterCancel s)).1 false false := by
  simp [transitionKey, isTerminal, hs, hc]

theorem transitionKey_sendEot {s : State} (hs : s.fsm = .sendEot) (hc : cancelNow s = false) :
    transitionKey s = writeKey .sendEot (writeChannel [eotByte] (afterCancel s)).1 false false := by
  simp [transitionKey, isTerminal, hs, hc]

/-- SEND_BLOCK, the source exhausted after the first chunk: nothing is written (R192). -/
theorem blockKey_eof {s : State} {c : List Byte} (hr : sourceNow s = .chunk c)
    (he : (c.isEmpty && !firstChunk s) = true) : blockKey s = mkKey false false .sendBlock .none false true := by
  simp [blockKey, hr, he]

/-- SEND_BLOCK with a chunk to send. -/
theorem blockKey_frame {s : State} {c : List Byte} (hr : sourceNow s = .chunk c)
    (he : (c.isEmpty && !firstChunk s) = false) :
    blockKey s = writeKey .sendBlock (frameWriteNow c s) (firstChunk s) c.isEmpty := by
  simp [blockKey, hr, he]

/-! ### A row that runs is the row the key selects -/

theorem stimulus_of_isStim {m : Stimulus} (a : ReadAnswer) (h : isStim m a = true) :
    ∃ n ∈ [m], stimulus a = some n := by
  simpa [isStim] using h

theorem stimulus_of_isNakTimeoutOther (a : ReadAnswer) (h : isNakTimeoutOther a = true) :
    ∃ n ∈ [Stimulus.nak, .timeout, .other], stimulus a = some n := by
  unfold isNakTimeoutOther at h
  split at h <;> simp_all

section Reading
variable {i : Instr} {st : Fsm} {p : ReadAnswer → Bool} {ms : List Stimulus} {k : State → State} {s t : State}

/-- A row of a reading state: the key is that of the stimulus read. -/
theorem selected_of_onRead (hst : st = .awaitStart ∨ st = .awaitAck ∨ st = .awaitEotAck)
    (h : onRead st p k s = .next t)
    (hrow : p (readNow s) = true → decodeKey (readKey st (readNow s) (readCond st s)) = .ok i) :
    decodeKey (transitionKey s) = .ok i := by
  obtain ⟨⟨hs, hc, hp⟩, -⟩ := onRead_next.1 h
  rw [transitionKey_read hst hs hc]
  exact hrow hp

theorem decodeKey_readKey {a : ReadAnswer} {c0 : Bool} (ha : ∃ m ∈ ms, stimulus a = some m)
    (hrow : ∀ m ∈ ms, decodeKey (mkKey false false st m false c0) = .ok i) :
    decodeKey (readKey st a c0) = .ok i := by
  obtain ⟨m, hm, ha⟩ := ha
  simpa [readKey, ha] using hrow m hm

/-- A row for any of the stimuli `ms`, whatever the condition bit. -/
theorem selected_of_stimulus (hst : st = .awaitStart ∨ st = .awaitAck ∨ st = .awaitEotAck)
    (h : onRead st p k s = .next t) (hp : ∀ a, p a = true → ∃ m ∈ ms, stimulus a = some m)
    (hrow : ∀ c0, ∀ m ∈ ms, decodeKey (mkKey false false st m false c0) = .ok i) :
    decodeKey (transitionKey s) = .ok i :=
  selected_of_onRead hst h fun ha => decodeKey_readKey (hp _ ha) (hrow _)

/-- A row for any of the stimuli `ms` with the condition bit 0: the bound is not reached. -/
theorem selected_within (hst : st = .awaitStart ∨ st = .awaitAck ∨ st = .awaitEotAck)
    (h : onRead st (fun a => p a && !readCond st s) k s = .next t)
    (hp : ∀ a, p a = true → ∃ m ∈ ms, stimulus a = some m)
    (hrow : ∀ m ∈ ms, decodeKey (mkKey false false st m false false) = .ok i) :
    decodeKey (transitionKey s) = .ok i :=
  selected_of_onRead hst h fun hpc => by
    obtain ⟨ha, hb⟩ := Bool.and_eq_true_iff.1 hpc
    rw [Bool.not_eq_eq_eq_not.1 hb]
    exact decodeKey_readKey (hp _ ha) hrow

/-- A row for any of the stimuli `ms` with the condition bit 1: the bound is reached. -/
theorem selected_beyond (hst : st = .awaitStart ∨ st = .awaitAck ∨ st = .awaitEotAck)
    (h : onRead st (fun a => p a && readCond st s) k s = .next t)
    (hp : ∀ a, p a = true → ∃ m ∈ ms, stimulus a = some m)
    (hrow : ∀ m ∈ ms, decodeKey (mkKey false false st m false true) = .ok i) :
    decodeKey (transitionKey s) = .ok i :=
  selected_of_onRead hst h fun hpc => by
    obtain ⟨ha, hb⟩ := Bool.and_eq_true_iff.1 hpc
    rw [hb]
    exact decodeKey_readKey (hp _ ha) hrow

/-- The row of a failed read. -/
theorem selected_of_readError (hst : st = .awaitStart ∨ st = .awaitAck ∨ st = .awaitEotAck)
    (h : onRead st isIoError k s = .next t)
    (hrow : decodeKey (mkKey false true st .none false false) = .ok i) :
    decodeKey (transitionKey s) = .ok i :=
  selected_of_onRead hst h fun ha => by
    rw [(isIoError_iff _).1 ha]
    exact hrow

end Reading

/-- A row of RETRY or SEND_EOT: the key is that of the write's result. -/
theorem selected_of_onWrite {i : Instr} {st : Fsm} {bs : List Byte} {res : WriteResult} {k : State → State}
    {s t : State} (h : onWrite st bs res k s = .next t)
    (hkey : s.fsm = st → cancelNow s = false →
      transitionKey s = writeKey st (writeChannel bs (afterCancel s)).1 false false)
    (hrow : decodeKey (writeKey st res false false) = .ok i) : decodeKey (transitionKey s) = .ok i := by
  obtain ⟨⟨hs, hc, hw⟩, -⟩ := onWrite_next.1 h
  rw [hkey hs hc, hw]
  exact hrow

theorem selected_of_onCancel {i : Instr} {p : Fsm → Bool} {s t : State} (h : onCancel p s = .next t)
    (hrow : ∀ f, p f = true → isTerminal f = false ∧ decodeKey (mkKey true false f .none false false) = .ok i) :
    decodeKey (transitionKey s) = .ok i := by
  obtain ⟨⟨hs, hc⟩, -⟩ := onCancel_next.1 h
  obtain ⟨hlive, hdecode⟩ := hrow _ hs
  rw [transitionKey_cancel hlive hc]
  exact hdecode

/-- A first transmission: the frame of the chunk was written. -/
theorem selected_of_transmitChunk {i : Instr} {c : List Byte} {s t : State} (hs : s.fsm = .sendBlock)
    (hc : cancelNow s = false) (hr : sourceNow s = .chunk c) (he : (c.isEmpty && !firstChunk s) = false)
    (h : transmitChunk c s = .next t)
    (hrow : decodeKey (mkKey false false .sendBlock .none (firstChunk s) c.isEmpty) = .ok i) :
    decodeKey (transitionKey s) = .ok i := by
  obtain ⟨hw, -⟩ := (transmitChunk_next (sourceNow_length hr)).1 h
  rw [transitionKey_sendBlock hs hc, blockKey_frame hr he, hw]
  exact hrow

/-- SEND_BLOCK fails: the source read failed, or a frame's write did (R193). -/
theorem selected_of_blockIoerr {s t : State} (h : execBlockIoerr s = .next t) :
    decodeKey (transitionKey s) = .ok .blockIoerr := by
  unfold execBlockIoerr at h
  split_ifs at h with hs
  rw [transitionKey_sendBlock hs.1 hs.2]
  split at h
  next hr =>
    rw [blockKey, hr]
    exact decodeKey_ioError .sendBlock
  next c hr =>
    split_ifs at h with hw
    rw [blockKey_frame hr hw.1, hw.2]
    exact decodeKey_ioError .sendBlock

/-- A transition row that answers a next state is the row the state's key selects (R113). -/
theorem selected_of_exec_next {i : Instr} {k : BitVec 10} {s t : State} (hk : encode i = .fsmKey k)
    (h : exec i s = .next t) : decodeKey (transitionKey s) = .ok i := by
  cases i with dsimp only [exec] at h
  | rxAck | rxNak | rxCan | rxStart | rxOther | txFrame | txEot | crcInit | crcRound | crcByte | crcBlock | frPad
  | frCmpl | frFrame | srcRead | chRead | chWrite | reset | evtEmit => cases hk
  | haltDone | haltFailed =>
    simp only [execHaltDone, execHaltFailed] at h
    split_ifs at h
  | cancel | cancelHi => exact selected_of_onCancel h fun f => by cases f <;> decide
  | startGo | startCan | ackAdv | ackCan | eotackDone | eotackCan =>
    exact selected_of_stimulus (by decide) h stimulus_of_isStim (by decide)
  | startPollAck | ackRetryC | eotackRetryC =>
    exact selected_within (by decide) h stimulus_of_isStim (by decide)
  | startExhaustAck | ackExhaustC | eotackExhaustC =>
    exact selected_beyond (by decide) h stimulus_of_isStim (by decide)
  | startPoll | ackRetry | eotackRetry =>
    exact selected_within (by decide) h stimulus_of_isNakTimeoutOther (by decide)
  | startExhaust | ackExhaust | eotackExhaust =>
    exact selected_beyond (by decide) h stimulus_of_isNakTimeoutOther (by decide)
  | startIoerr | ackIoerr | eotackIoerr => exact selected_of_readError (by decide) h (decodeKey_ioError _)
  | retrySend => exact selected_of_onWrite h transitionKey_retry decodeKey_retry
  | retryIoerr => exact selected_of_onWrite h transitionKey_retry (decodeKey_ioError _)
  | eotSend => exact selected_of_onWrite h transitionKey_sendEot decodeKey_eot
  | eotIoerr => exact selected_of_onWrite h transitionKey_sendEot (decodeKey_ioError _)
  | blockSend =>
    obtain ⟨hs, hc, c, hr, hsend⟩ := onChunk_next.1 h
    split_ifs at hsend with he
    have he : c.isEmpty = false := by simpa using he
    exact selected_of_transmitChunk hs hc hr (by simp [he]) hsend (by rw [he]; exact decodeKey_send _)
  | blockSendEmpty =>
    obtain ⟨hs, hc, c, hr, hsend⟩ := onChunk_next.1 h
    split_ifs at hsend with he
    obtain ⟨he, hf⟩ := Bool.and_eq_true_iff.1 he
    exact selected_of_transmitChunk hs hc hr (by simp [hf]) hsend (by rw [he, hf]; exact decodeKey_sendEmpty)
  | blockEof =>
    obtain ⟨hs, hc, c, hr, hend⟩ := onChunk_next.1 h
    split_ifs at hend with he
    rw [transitionKey_sendBlock hs hc, blockKey_eof hr he]
    exact decodeKey_eof
  | blockIoerr => exact selected_of_blockIoerr h

/-! ### In a live state some row runs -/

/-- Some transition row answers a next state in `s`. -/
def RowRuns (s : State) : Prop := ∃ i k t, encode i = .fsmKey k ∧ exec i s = .next t

theorem rowRuns_cancel {s : State} (hlive : isTerminal s.fsm = false) (hc : cancelNow s = true) : RowRuns s := by
  have hcode : (!(stateCode s.fsm).getLsbD 2) = true ∨
      ((stateCode s.fsm).getLsbD 2 && !(stateCode s.fsm).getLsbD 1) = true := by
    revert hlive; cases s.fsm <;> decide
  obtain hlo | hhi := hcode
  · exact ⟨.cancel, _, _, rfl, (exec_cancel s).trans (onCancel_next.2 ⟨⟨hlo, hc⟩, rfl⟩)⟩
  · exact ⟨.cancelHi, _, _, rfl, (exec_cancelHi s).trans (onCancel_next.2 ⟨⟨hhi, hc⟩, rfl⟩)⟩

/-- Two rows for the same answers, on either side of the bound `b`: one of them runs. -/
theorem rowRuns_on_either_side {i j : Instr} {ki kj : BitVec 10} {st : Fsm} {p : ReadAnswer → Bool} {b : Bool}
    {within beyond : State → State} {s : State} (hi : exec i s = onRead st (fun a => p a && !b) within s)
    (hj : exec j s = onRead st (fun a => p a && b) beyond s) (hki : encode i = .fsmKey ki)
    (hkj : encode j = .fsmKey kj) (hs : s.fsm = st) (hc : cancelNow s = false) (hp : p (readNow s) = true) :
    RowRuns s := by
  cases b with
  | false => exact ⟨i, ki, _, hki, exec_of_onRead hi hs hc (by simp [hp])⟩
  | true => exact ⟨j, kj, _, hkj, exec_of_onRead hj hs hc (by simp [hp])⟩

theorem rowRuns_awaitStart {s : State} (hs : s.fsm = .awaitStart) (hc : cancelNow s = false) : RowRuns s := by
  obtain ha | ha | ha | ha | ha := answer_cases (readNow s)
  · exact rowRuns_on_either_side (exec_startPollAck s) (exec_startExhaustAck s) rfl rfl hs hc ((isStim_ack _).2 ha)
  · exact ⟨.startCan, _, _, rfl, exec_of_onRead (exec_startCan s) hs hc ((isStim_can _).2 ha)⟩
  · exact ⟨.startGo, _, _, rfl, exec_of_onRead (exec_startGo s) hs hc ((isStim_start _).2 ha)⟩
  · exact rowRuns_on_either_side (exec_startPoll s) (exec_startExhaust s) rfl rfl hs hc
      ((isNakTimeoutOther_iff _).2 ha)
  · exact ⟨.startIoerr, _, _, rfl, exec_of_onRead (exec_startIoerr s) hs hc ((isIoError_iff _).2 ha)⟩

theorem rowRuns_awaitAck {s : State} (hs : s.fsm = .awaitAck) (hc : cancelNow s = false) : RowRuns s := by
  obtain ha | ha | ha | ha | ha := answer_cases (readNow s)
  · exact ⟨.ackAdv, _, _, rfl, exec_of_onRead (exec_ackAdv s) hs hc ((isStim_ack _).2 ha)⟩
  · exact ⟨.ackCan, _, _, rfl, exec_of_onRead (exec_ackCan s) hs hc ((isStim_can _).2 ha)⟩
  · exact rowRuns_on_either_side (exec_ackRetryC s) (exec_ackExhaustC s) rfl rfl hs hc ((isStim_start _).2 ha)
  · exact rowRuns_on_either_side (exec_ackRetry s) (exec_ackExhaust s) rfl rfl hs hc
      ((isNakTimeoutOther_iff _).2 ha)
  · exact ⟨.ackIoerr, _, _, rfl, exec_of_onRead (exec_ackIoerr s) hs hc ((isIoError_iff _).2 ha)⟩

theorem rowRuns_awaitEotAck {s : State} (hs : s.fsm = .awaitEotAck) (hc : cancelNow s = false) : RowRuns s := by
  obtain ha | ha | ha | ha | ha := answer_cases (readNow s)
  · exact ⟨.eotackDone, _, _, rfl, exec_of_onRead (exec_eotackDone s) hs hc ((isStim_ack _).2 ha)⟩
  · exact ⟨.eotackCan, _, _, rfl, exec_of_onRead (exec_eotackCan s) hs hc ((isStim_can _).2 ha)⟩
  · exact rowRuns_on_either_side (exec_eotackRetryC s) (exec_eotackExhaustC s) rfl rfl hs hc
      ((isStim_start _).2 ha)
  · exact rowRuns_on_either_side (exec_eotackRetry s) (exec_eotackExhaust s) rfl rfl hs hc
      ((isNakTimeoutOther_iff _).2 ha)
  · exact ⟨.eotackIoerr, _, _, rfl, exec_of_onRead (exec_eotackIoerr s) hs hc ((isIoError_iff _).2 ha)⟩

theorem rowRuns_retry {s : State} (hs : s.fsm = .retry) (hc : cancelNow s = false) : RowRuns s := by
  cases hw : (writeChannel (retryFrame s) (afterCancel s)).1 with
  | ok => exact ⟨.retrySend, _, _, rfl, exec_of_onWrite (exec_retrySend s) hs hc hw⟩
  | ioError => exact ⟨.retryIoerr, _, _, rfl, exec_of_onWrite (exec_retryIoerr s) hs hc hw⟩

theorem rowRuns_sendEot {s : State} (hs : s.fsm = .sendEot) (hc : cancelNow s = false) : RowRuns s := by
  cases hw : (writeChannel [eotByte] (afterCancel s)).1 with
  | ok => exact ⟨.eotSend, _, _, rfl, exec_of_onWrite (exec_eotSend s) hs hc hw⟩
  | ioError => exact ⟨.eotIoerr, _, _, rfl, exec_of_onWrite (exec_eotIoerr s) hs hc hw⟩

/-- `BLOCK.IOERR` runs where the source read failed (R193). -/
theorem blockIoerr_runs_of_source {s : State} (hs : s.fsm = .sendBlock) (hc : cancelNow s = false)
    (hr : sourceNow s = .ioError) : exec .blockIoerr s = .next (raiseFailed s .ioError (afterSource s)) := by
  simp [exec_blockIoerr, execBlockIoerr, hs, hc, hr]

/-- `BLOCK.IOERR` runs where the write of a frame failed (R193). -/
theorem blockIoerr_runs_of_frame {s : State} {c : List Byte} (hs : s.fsm = .sendBlock) (hc : cancelNow s = false)
    (hr : sourceNow s = .chunk c) (he : (c.isEmpty && !firstChunk s) = false) (hw : frameWriteNow c s = .ioError) :
    exec .blockIoerr s = .next (raiseFailed s .ioError (afterFrameWrite c s)) := by
  simp only [exec_blockIoerr, execBlockIoerr, hs, hc, hr, he, hw, and_self, if_true]

/-- SEND_BLOCK: the source fails, or it is exhausted, or the frame of the chunk is written or fails (R190 to R193). -/
theorem rowRuns_sendBlock {s : State} (hs : s.fsm = .sendBlock) (hc : cancelNow s = false) : RowRuns s := by
  cases hr : sourceNow s with
  | ioError => exact ⟨.blockIoerr, _, _, rfl, blockIoerr_runs_of_source hs hc hr⟩
  | chunk c =>
    cases he : c.isEmpty && !firstChunk s with
    | true => exact ⟨.blockEof, _, _, rfl, (onChunk_runs hs hc hr).trans (if_pos he)⟩
    | false =>
      cases hw : frameWriteNow c s with
      | ioError => exact ⟨.blockIoerr, _, _, rfl, blockIoerr_runs_of_frame hs hc hr he hw⟩
      | ok =>
        have hsend := transmitChunk_runs hw (sourceNow_length hr)
        cases hempty : c.isEmpty with
        | false =>
          exact ⟨.blockSend, _, _, rfl, (onChunk_runs hs hc hr).trans ((if_neg (by simp [hempty])).trans hsend)⟩
        | true =>
          have hfirst : firstChunk s = true := by simpa [hempty] using he
          exact ⟨.blockSendEmpty, _, _, rfl,
            (onChunk_runs hs hc hr).trans ((if_pos (by simp [hempty, hfirst])).trans hsend)⟩

theorem rowRuns_of_live {s : State} (hlive : isTerminal s.fsm = false) : RowRuns s := by
  cases hc : cancelNow s with
  | true => exact rowRuns_cancel hlive hc
  | false =>
    cases hs : s.fsm with
    | awaitStart => exact rowRuns_awaitStart hs hc
    | sendBlock => exact rowRuns_sendBlock hs hc
    | awaitAck => exact rowRuns_awaitAck hs hc
    | retry => exact rowRuns_retry hs hc
    | sendEot => exact rowRuns_sendEot hs hc
    | awaitEotAck => exact rowRuns_awaitEotAck hs hc
    | done | failed => simp [hs, isTerminal] at hlive

/-- Transition rows carry no operand to check. -/
theorem wellFormed_of_encode {i : Instr} {k : BitVec 10} (hk : encode i = .fsmKey k) : i.wellFormed = true := by
  cases i with
  | rxOther | txFrame | frPad | frFrame => cases hk
  | _ => rfl

/-! ### The obligations -/

/-- Settles O41: operands are carried unchanged, a frame is cut where it was joined, and every other word of the encoder is
a closed one whose row is looked up. -/
theorem decodeEncodeRoundTrip : Obligations.DecodeEncodeRoundTrip := by
  intro i hwf
  cases i with
  | rxOther b => exact decode_rxByte_other (by simpa [Instr.wellFormed] using hwf)
  | txFrame q cmpl p hi lo =>
    have hp : p.length = blockLen := by
      simp only [Instr.wellFormed, Bool.and_eq_true, decide_eq_true_eq] at hwf
      exact hwf.1.1.1
    exact decodeTxFrame_layFrame hp q cmpl hi lo
  | _ => rfl

/-- Settles O44, by the shape of each row. -/
theorem rowRunsOnlyWhenSelected : Obligations.RowRunsOnlyWhenSelected :=
  fun _ _ _ _ hk h => selected_of_exec_next hk h

/-- Settles O43: some row runs, so the key selects it. -/
theorem everyLiveStateHasStep : Obligations.EveryLiveStateHasStep := by
  intro s hlive hcalls hlegal
  obtain ⟨i, k, t, hk, hexec⟩ := rowRuns_of_live hlive
  refine ⟨t, ?_⟩
  rw [step_transition hcalls hlegal]
  simp [runCall, decode, selected_of_exec_next hk hexec, wellFormed_of_encode hk, hexec]

/-- Settles O12, by the class of the byte. -/
theorem receivedByteHasItsClass : Obligations.ReceivedByteHasItsClass := by
  intro s
  refine ⟨⟨rfl, rfl⟩, ⟨rfl, rfl⟩, ⟨rfl, rfl⟩, ⟨rfl, rfl⟩, fun b hack hnak hcan hstart => ?_⟩
  have hother := classify_other hack hnak hcan hstart
  exact ⟨decode_rxByte_other hother, classified_runs hother s⟩

/-- Settles O13: both formats are a direct transmission. -/
theorem transmittedFormatsAreOneWrite : Obligations.TransmittedFormatsAreOneWrite := by
  rintro s q k h l p i bs (⟨rfl, rfl⟩ | ⟨rfl, rfl⟩)
  · exact transmit_one_write ([0x01, q, k] ++ p ++ [h, l]) s
  · exact transmit_one_write [0x04] s

/-- Settles O40, by looking up each word. -/
theorem specWordsDecode : Obligations.SpecWordsDecode :=
  ⟨rfl, rfl, rfl, rfl, rfl, rfl, rfl, rfl, rfl, rfl, rfl, rfl, rfl, rfl, rfl⟩

/-- Settles O42: rows that match one key agree on the bits both test. -/
theorem keyMatchesOneRow : Obligations.KeyMatchesOneRow :=
  fun _ r₁ r₂ hr₁ hr₂ h₁ h₂ => keyRows_separated r₁ hr₁ r₂ hr₂ (KeyRow.bits_agree h₁ h₂)

end Sys2Proof.Machine
end

section
/-! SUPPORT. The CRC Engine. A round is a shift while bit 15 is clear, so the low byte of the register only moves up in
eight rounds; the high byte and the input byte go through the table of law 5 (R146). Linearity, leading zeros and the
residue follow. The operations on the register `crc` compute these functions (R141 to R144). -/

namespace Sys2Proof.Machine

/-! ### Rounds -/

theorem crcRound_of_set {r : Word16} (h : r.getLsbD 15 = true) : crcRound r = (r <<< 1) ^^^ crcPoly :=
  if_pos h

theorem crcRound_of_clear {r : Word16} (h : r.getLsbD 15 = false) : crcRound r = r <<< 1 :=
  if_neg (Bool.eq_false_iff.1 h)

/-- Rounds that lose no bit at the top are shifts. -/
theorem crcRounds_of_fits {n : Nat} {r : Word16} (h : r.toNat * 2 ^ n < 2 ^ 16) : crcRounds n r = r <<< n := by
  induction n generalizing r with
  | zero => exact (BitVec.shiftLeft_zero r).symm
  | succ n ih =>
    have hdouble : r.toNat * 2 * 2 ^ n < 2 ^ 16 := by rwa [mul_assoc, ← pow_succ']
    have hsmall : r.toNat * 2 < 2 ^ 16 := (Nat.le_mul_of_pos_right _ (Nat.two_pow_pos n)).trans_lt hdouble
    have hclear : r.getLsbD 15 = false := Nat.testBit_lt_two_pow (by omega)
    have hshift : (r <<< 1).toNat = r.toNat * 2 := by
      rw [BitVec.toNat_shiftLeft, Nat.shiftLeft_eq, pow_one, Nat.mod_eq_of_lt hsmall]
    rw [crcRounds, crcRound_of_clear hclear, ih (hshift ▸ hdouble), ← BitVec.shiftLeft_add, Nat.add_comm]

/-! ### The byte step -/

@[simp] theorem getElem_crcHi (r : Word16) {i : Nat} (h : i < 8) : (crcHi r)[i] = r[8 + i] := by
  simp [crcHi, BitVec.getLsbD_eq_getElem (show 8 + i < 16 by omega)]

@[simp] theorem getElem_crcLo (r : Word16) {i : Nat} (h : i < 8) : (crcLo r)[i] = r[i] := by
  simp [crcLo, BitVec.getLsbD_eq_getElem (show i < 16 by omega)]

/-- A byte is XORed onto the high byte of the register; the low byte stands alone (R143). -/
theorem xor_high_byte (r : Word16) (b : Byte) :
    r ^^^ (b.setWidth 16 <<< 8) = (crcLo r).setWidth 16 ^^^ ((crcHi r ^^^ b).setWidth 16 <<< 8) := by
  ext i hi
  by_cases h : i < 8
  · simp [h]
  · simp [h, show i - 8 < 8 by omega, show 8 + (i - 8) = i by omega, BitVec.getLsbD_of_ge (crcLo r) i (by omega)]

theorem crcLo_shiftLeft (r : Word16) : (crcLo r).setWidth 16 <<< 8 = r <<< 8 := by
  ext i hi
  simp [show i - 8 < 8 by omega]

theorem crcHi_shiftLeft (r : Word16) : crcHi (r <<< 8) = crcLo r := by
  ext i hi
  simp

theorem crcByte_eq_table (r : Word16) (b : Byte) : crcByte r b = (r <<< 8) ^^^ crcByte 0#16 (crcHi r ^^^ b) := by
  have hlow : crcRounds 8 ((crcLo r).setWidth 16) = r <<< 8 := by
    rw [crcRounds_of_fits (by have := (crcLo r).isLt; simp; omega), crcLo_shiftLeft]
  rw [crcByte, xor_high_byte, crcRounds_xor, hlow, crcByte, BitVec.zero_xor]

theorem crcByte_zero : crcByte 0#16 0#8 = 0#16 := by decide

/-- The register's own high byte cancels itself. -/
theorem crcByte_crcHi (r : Word16) : crcByte r (crcHi r) = r <<< 8 := by
  rw [crcByte_eq_table, BitVec.xor_self, crcByte_zero, BitVec.xor_zero]

theorem crcByte_crcHi_crcLo (r : Word16) : crcByte (crcByte r (crcHi r)) (crcLo r) = 0#16 := by
  rw [crcByte_crcHi, ← crcHi_shiftLeft, crcByte_crcHi, ← BitVec.shiftLeft_add, BitVec.shiftLeft_eq_zero (by decide)]

/-! ### Byte sequences -/

theorem crcOver_replicate_zero (n : Nat) : crcOver 0#16 (List.replicate n 0#8) = 0#16 := by
  induction n with
  | zero => rfl
  | succ n ih => rw [List.replicate_succ, crcOver_cons, crcByte_zero, ih]

theorem crcOver_zipWith_xor (a b : Word16) {p q : List Byte} (h : p.length = q.length) :
    crcOver (a ^^^ b) (List.zipWith (· ^^^ ·) p q) = crcOver a p ^^^ crcOver b q := by
  induction p generalizing q a b with
  | nil => rw [List.length_eq_zero_iff.1 h.symm]; rfl
  | cons x p ih =>
    cases q with
    | nil => cases h
    | cons y q => simp only [List.zipWith_cons_cons, crcOver_cons, crcByte_xor, ih _ _ (Nat.succ.inj h)]

theorem crcOver_append_own_crc (r : Word16) (m : List Byte) :
    crcOver r (m ++ [crcHi (crcOver r m), crcLo (crcOver r m)]) = 0#16 := by
  rw [crcOver_append, crcOver_cons, crcOver_cons, crcOver_nil, crcByte_crcHi_crcLo]

/-! ### The operations on the register -/

/-- The machine that performs `CRC.ROUND` at every step. -/
def roundCore (s₀ : State) : Host.Core :=
  { State := State, Fault := Fault, Refusal := Refusal, step := exec .crcRound, reset := s₀ }

theorem run_roundCore (s₀ : State) (n : Nat) (s : State) :
    Host.Core.run (roundCore s₀) n s = .next { s with crc := crcRounds n s.crc } := by
  induction n generalizing s with
  | zero => rfl
  | succ n ih => exact ih { s with crc := crcRound s.crc }

/-- A fold that performs `CRC.BYTE` of each byte on the state before it computes the CRC from the first register. -/
theorem foldl_crcByte {f : Out → Byte → Out} (hf : ∀ u b, f (.next u) b = exec (.crcByte b) u) (p : List Byte)
    (s : State) : p.foldl f (.next s) = .next { s with crc := crcOver s.crc p } := by
  induction p generalizing s with
  | nil => rfl
  | cons b p ih => rw [List.foldl_cons, hf, exec_crcByte, execCrcByte, ih, crcOver_cons]

/-! ### The obligations -/

/-- Settles O4: the fold of `CRC.BYTE` from the register that `CRC.INIT` leaves is `compute_crc`. -/
theorem crcBlockFoldsBytes : Obligations.CrcBlockFoldsBytes :=
  fun p s _ => ⟨computeCrc p, foldl_crcByte (fun _ _ => rfl) p { s with crc := crcStart }, exec_crcBlock p s⟩

/-- Settles O5: the low byte moves up, the high byte and the input byte go through the table. -/
theorem crcByteIsTableLookup : Obligations.CrcByteIsTableLookup := crcByte_eq_table

/-- Settles O6: every byte step distributes over XOR, and the initial value 0 is the XOR of itself with itself. -/
theorem crcIsLinear : Obligations.CrcIsLinear :=
  fun _ _ h => crcOver_zipWith_xor crcStart crcStart h

/-- Settles O7: zero bytes keep the register 0, and the register's own two bytes cancel it. -/
theorem crcResidueIsZero : Obligations.CrcResidueIsZero := by
  refine ⟨fun n m => ?_, crcOver_append_own_crc crcStart⟩
  have hzeros : crcOver crcStart (List.replicate n 0) = crcStart := crcOver_replicate_zero n
  rw [computeCrc, crcOver_append, hzeros, computeCrc]

/-- Settles O1, by the meaning of `CRC.INIT`. -/
theorem crcInitClearsRegister : Obligations.CrcInitClearsRegister := exec_crcInit

/-- Settles O2, by the two cases of a round. -/
theorem crcRoundShiftsAndReduces : Obligations.CrcRoundShiftsAndReduces := by
  intro s
  rw [exec_crcRound, execCrcRound]
  exact ⟨fun h => by rw [crcRound_of_set h, crcPoly], fun h => by rw [crcRound_of_clear h]⟩

/-- Settles O3: eight steps of the machine of rounds are the eight rounds of `CRC.BYTE`. -/
theorem crcByteIsXorThenEightRounds : Obligations.CrcByteIsXorThenEightRounds :=
  fun b s =>
    ⟨crcByte s.crc b, run_roundCore s 8 { s with crc := s.crc ^^^ (b.setWidth 16 <<< 8) }, exec_crcByte b s⟩

end Sys2Proof.Machine
end

section
/-! SUPPORT. The Block Framer. A frame is its layout, read off offset by offset, around a padded payload (R161 to R163). A
retry lays out the same bytes: the first transmission left in the buffer the payload it framed, and a frame depends on the
pad byte, the number and the payload alone (R164). -/

namespace Sys2Proof.Machine

/-! ### The complement -/

theorem seqCmpl_toNat (q : Byte) : (seqCmpl q).toNat = 255 - q.toNat :=
  BitVec.toNat_sub_of_le (BitVec.le_def.2 (Nat.le_of_lt_succ q.isLt))

/-- The complement is the bitwise one (R162). -/
theorem seqCmpl_eq_xor (q : Byte) : seqCmpl q = q ^^^ 0xFF :=
  (BitVec.allOnes_sub_eq_not q).trans BitVec.xor_allOnes.symm

/-! ### The layout -/

section Layout
variable {p : List Byte} (q cmpl hi lo : Byte)

theorem layFrame_soh : (layFrame q cmpl p hi lo)[0]? = some 0x01 := rfl

theorem layFrame_seq : (layFrame q cmpl p hi lo)[1]? = some q := rfl

theorem layFrame_cmpl : (layFrame q cmpl p hi lo)[2]? = some cmpl := rfl

variable (hp : p.length = blockLen)
include hp

theorem layFrame_payload : ((layFrame q cmpl p hi lo).drop 3).take 128 = p :=
  List.take_left' hp

theorem layFrame_crcHi : (layFrame q cmpl p hi lo)[131]? = some hi := by
  simp [layFrame, hp, blockLen]

theorem layFrame_crcLo : (layFrame q cmpl p hi lo)[132]? = some lo := by
  simp [layFrame, hp, blockLen]

end Layout

/-! ### The chunk bound -/

theorem execFrPad_within {c : List Byte} {s : State} (hc : c.length ≤ blockLen) :
    execFrPad c s = .next { s with answer := .bytes (padChunk s.cfg.padByte c) } := if_pos hc

theorem execFrPad_beyond {c : List Byte} {s : State} (hc : blockLen < c.length) :
    execFrPad c s = .refused .chunkTooLong := if_neg hc.not_ge

theorem execFrFrame_within {q : Byte} {c : List Byte} {s : State} (hc : c.length ≤ blockLen) :
    execFrFrame q c s = .next { s with
      crc := computeCrc (padChunk s.cfg.padByte c), answer := .bytes (frameBytes s.cfg.padByte q c) } := if_pos hc

theorem execFrFrame_beyond {q : Byte} {c : List Byte} {s : State} (hc : blockLen < c.length) :
    execFrFrame q c s = .refused .chunkTooLong := if_neg hc.not_ge

/-! ### First transmission and retry -/

/-- `BLOCK.SEND` and `BLOCK.SEND_EMPTY` are each the first transmission of the chunk that was read (R190, R191). -/
theorem exec_send_transmits {i : Instr} {s t : State} (hi : i = .blockSend ∨ i = .blockSendEmpty)
    (h : exec i s = .next t) : ∃ c, c.length ≤ blockLen ∧ transmitChunk c s = .next t := by
  obtain rfl | rfl := hi
  all_goals
    obtain ⟨-, -, c, hc, hsend⟩ := onChunk_next.1 h
    split_ifs at hsend
    exact ⟨c, sourceNow_length hc, hsend⟩

/-- The first transmission leaves in the buffer the payload it framed. -/
theorem cachedPayload_of_transmitChunk {c : List Byte} {s t : State} (hc : c.length ≤ blockLen)
    (hwf : memoryWf s.pay = true) (h : transmitChunk c s = .next t) : cachedPayload t = payloadOf c s := by
  obtain ⟨-, rfl⟩ := (transmitChunk_next hc).1 h
  have hfull : (payloadOf c s).length = blockLen := padChunk_length hc
  have hread := readBytes_writeBytes (a := 0) hwf (show 0 + (payloadOf c s).length ≤ blockLen by omega)
  rwa [hfull] at hread

theorem transmitChunk_writes {c : List Byte} {s t : State} (hc : c.length ≤ blockLen)
    (h : transmitChunk c s = .next t) : t.writes = s.writes ++ [frameOf c s] := by
  obtain ⟨-, rfl⟩ := (transmitChunk_next hc).1 h
  exact afterFrameWrite_writes c s

/-- The first transmission changes neither the number nor the pad byte, so a retry lays out the frame it wrote. -/
theorem retryFrame_of_transmitChunk {c : List Byte} {s t : State} (hc : c.length ≤ blockLen)
    (hwf : memoryWf s.pay = true) (h : transmitChunk c s = .next t) : retryFrame t = frameOf c s := by
  have hcached := cachedPayload_of_transmitChunk hc hwf h
  obtain ⟨-, rfl⟩ := (transmitChunk_next hc).1 h
  rw [retryFrame, hcached, frameOf]
  simp

/-- A retry's frame depends on the number, the buffer and the pad byte alone (R202). -/
theorem retryFrame_congr {t u : State} (hseq : u.seq = t.seq) (hpay : u.pay = t.pay)
    (hpad : u.cfg.padByte = t.cfg.padByte) : retryFrame u = retryFrame t := by
  rw [retryFrame, retryFrame, cachedPayload, cachedPayload, hseq, hpay, hpad]

/-! ### The obligations -/

/-- Settles O11: the frame the first transmission wrote is the one a retry lays out from the number, the buffer and the
pad byte. -/
theorem retryResendsSameFrame : Obligations.RetryResendsSameFrame := by
  intro i s t u hi hwf hsend hfsm hseq hpay hpad hcancel hok
  obtain ⟨c, hc, hfirst⟩ := exec_send_transmits hi hsend
  have hframe : retryFrame u = frameOf c s :=
    (retryFrame_congr hseq hpay hpad).trans (retryFrame_of_transmitChunk hc hwf hfirst)
  refine ⟨_, frameOf c s, exec_of_onWrite (exec_retrySend u) hfsm hcancel hok, transmitChunk_writes hc hfirst, ?_⟩
  simp [hframe]

/-- Settles O8, by the two sides of the bound. -/
theorem frPadFillsTo128 : Obligations.FrPadFillsTo128 :=
  fun _ _ => ⟨fun hc => ⟨_, execFrPad_within hc, rfl, padChunk_length hc⟩, execFrPad_beyond⟩

/-- Settles O9: no byte exceeds 255, so the subtraction does not wrap. -/
theorem frCmplComplements : Obligations.FrCmplComplements := by
  intro q s
  refine ⟨seqCmpl q, exec_frCmpl q s, seqCmpl_toNat q, seqCmpl_eq_xor q, ?_⟩
  have hq := q.isLt
  rw [seqCmpl_toNat]
  omega

/-- Settles O10: the layout, offset by offset, around the padded chunk. -/
theorem frFrameLaysOutFrame : Obligations.FrFrameLaysOutFrame := by
  intro q c s
  refine ⟨fun hc => ?_, execFrFrame_beyond⟩
  have hp : (padChunk s.cfg.padByte c).length = blockLen := padChunk_length hc
  exact ⟨_, _, _, rfl, rfl, execFrFrame_within hc, frameBytes_length hc, layFrame_soh .., layFrame_seq ..,
    layFrame_cmpl .., layFrame_payload _ _ _ _ hp, layFrame_crcHi _ _ _ _ hp, layFrame_crcLo _ _ _ _ hp⟩

end Sys2Proof.Machine
end

section
/-! SUPPORT. The rows of the Sender State Machine. A row performs its operations, which write no register (`Operated`), then
writes registers (`RegistersOnly`) and ends in `finish` or `raiseFailed`. From that follow the reading, the writing and the
failing step of the statements (`readStep_finish`, `writeStep_finish`, `failStep_raiseFailed`); what is left to each row is
which registers it wrote and when it runs. -/

namespace Sys2Proof.Machine

/-! ### Registers -/

/-- The registers outside the list, one by one. -/
theorem onlyRegs_iff {w : List Reg} {s t : State} :
    OnlyRegs w s t ↔
      (.fsm ∉ w → t.fsm = s.fsm) ∧ (.seq ∉ w → t.seq = s.seq) ∧ (.crc ∉ w → t.crc = s.crc) ∧
      (.pay ∉ w → ∀ a, readByte t.pay a = readByte s.pay a) ∧ (.chunkLen ∉ w → t.chunkLen = s.chunkLen) ∧
      (.retryCount ∉ w → t.retryCount = s.retryCount) ∧ (.pollCount ∉ w → t.pollCount = s.pollCount) ∧
      (.filePos ∉ w → t.filePos = s.filePos) ∧ (.bytesSent ∉ w → t.bytesSent = s.bytesSent) ∧
      (.blockIndex ∉ w → t.blockIndex = s.blockIndex) ∧ (.reason ∉ w → t.reason = s.reason) := by
  constructor
  · intro h
    exact ⟨h .fsm, h .seq, h .crc, h .pay, h .chunkLen, h .retryCount, h .pollCount, h .filePos, h .bytesSent,
      h .blockIndex, h .reason⟩
  · rintro ⟨hfsm, hseq, hcrc, hpay, hlen, hretry, hpoll, hpos, hsent, hindex, hreason⟩ r
    cases r <;> assumption

theorem SameReg.trans {s u t : State} {r : Reg} (h : SameReg s u r) (k : SameReg u t r) : SameReg s t r := by
  cases r with
  | pay => exact fun a => (k a).trans (h a)
  | _ => exact Eq.trans k h

/-- Register writes after operations that wrote none. -/
theorem OnlyRegs.trans {w : List Reg} {s u t : State} (h : OnlyRegs [] s u) (k : OnlyRegs w u t) : OnlyRegs w s t :=
  fun r hr => (h r (by simp)).trans (k r hr)

/-- `v` is `u` but for session registers: no input was consumed, no output made, and the setup stands. -/
structure RegistersOnly (u v : State) : Prop where
  quiet : Quiet u v
  events : v.events = u.events
  cancelReq : v.cancelReq = u.cancelReq
  srcAnswers : v.srcAnswers = u.srcAnswers
  setup : SameSetup u v

/-- A record update of registers alone leaves everything else as it is, by definition. -/
theorem registersOnly_update (u : State) (q : Byte) (r : Word16) (m : List Host.Cell) (l : BitVec 8)
    (n p f b k : Nat) (e : Option FailReason) :
    RegistersOnly u { u with
      seq := q, crc := r, pay := m, chunkLen := l, retryCount := n, pollCount := p, filePos := f, bytesSent := b,
      blockIndex := k, reason := e } :=
  ⟨⟨⟨rfl, rfl⟩, rfl, rfl, rfl⟩, rfl, rfl, rfl, rfl, rfl, rfl, rfl⟩

/-! ### The operations of a step -/

/-- What the operations of a step do that lead from `s` to `u`: the request is sampled, the records `es` are left, and no
register is written. -/
structure Operated (s u : State) (es : List Event) : Prop where
  regs : OnlyRegs [] s u
  events : u.events = s.events ++ es
  cancelReq : u.cancelReq = s.cancelReq.tail
  setup : SameSetup s u

theorem afterCancel_operated (s : State) : Operated s (afterCancel s) [] :=
  ⟨(afterCancel_outward s).onlyRegs rfl, by simp, rfl, rfl, rfl, rfl, rfl⟩

theorem afterSource_operated (s : State) : Operated s (afterSource s) [] :=
  ⟨(afterSource_outward s).onlyRegs rfl, by simp, rfl, rfl, rfl, rfl, rfl⟩

theorem afterRead_operated (s : State) : Operated s (afterRead s) (rxEvents s.seq (readNow s)) :=
  ⟨(afterRead_outward s).onlyRegs (by simp), by simp, by simp, by simp [SameSetup]⟩

theorem afterWrite_operated (bs : List Byte) (s : State) : Operated s (writeChannel bs (afterCancel s)).2 [] :=
  ⟨(afterWrite_outward bs s).onlyRegs (by simp), by simp, by simp, by simp [SameSetup]⟩

theorem afterFrameWrite_operated (c : List Byte) (s : State) : Operated s (afterFrameWrite c s) [] :=
  ⟨(afterFrameWrite_outward c s).onlyRegs (by simp), by simp, by simp, by simp [SameSetup]⟩

/-! ### The steps of the statements -/

/-- The end of a reading step, after the registers are written (R181, R247). -/
theorem readStep_finish {w : List Reg} {s v : State} {d : Fsm} {o : EventOutcome} (hv : RegistersOnly (afterRead s) v)
    (hw : OnlyRegs w s (finish s d o v)) : ReadStep w d o s (finish s d o v) := by
  obtain ⟨⟨⟨hreads, hrx⟩, hwrites, htx, hwr⟩, hevents, hcancel, hsrc, hcfg, hsource, hcalls, hanswer⟩ := hv
  refine ⟨rfl, by simp [hevents], ?_, ?_, by simp [hsrc], by simp [hcancel], hw, ?_⟩
  · simp [ReadOnce, hreads, hrx]
  · simp [NoWrite, hwrites, htx, hwr]
  · simp [SameSetup, hcfg, hsource, hcalls, hanswer]

/-- A reading step that fails after the registers are written. -/
theorem readStep_raiseFailed {w : List Reg} {s v : State} {r : FailReason} (hv : RegistersOnly (afterRead s) v)
    (hw : OnlyRegs w s (raiseFailed s r v)) : ReadStep w .failed (.reason r) s (raiseFailed s r v) :=
  readStep_finish (v := { v with reason := some r })
    ⟨hv.quiet, hv.events, hv.cancelReq, hv.srcAnswers, hv.setup⟩ hw

/-- The end of a writing step whose write, which led to `u`, succeeded. -/
theorem writeStep_finish {w : List Reg} {s u v : State} {bs : List Byte} {n : Byte} {d : Fsm}
    (hu : Operated s u []) (hbs : WroteOnce bs s u) (hread : NoRead s u)
    (hv : RegistersOnly (emit (evTx s.seq n) u) v) (hw : OnlyRegs w s (finish s d .none v)) :
    WriteStep bs n w d s (finish s d .none v) := by
  obtain ⟨⟨⟨hreads, hrx⟩, hwrites, htx, hwr⟩, hevents, hcancel, -, hcfg, hsource, hcalls, hanswer⟩ := hv
  obtain ⟨-, huevents, hucancel, hucfg, husource, hucalls, huanswer⟩ := hu
  refine ⟨rfl, by simp [hevents, huevents], ?_, ?_, by simp [hcancel, hucancel], hw, ?_⟩
  · simpa [WroteOnce, hwrites, htx, hwr] using hbs
  · simpa [NoRead, hreads, hrx] using hread
  · simp [SameSetup, hcfg, hsource, hcalls, hanswer, hucfg, husource, hucalls, huanswer]

/-- A failing step whose operations, which led to `u`, left no record (R268). -/
theorem failStep_raiseFailed {s u : State} (r : FailReason) (hu : Operated s u []) :
    FailStep r s (raiseFailed s r u) := by
  obtain ⟨hregs, hevents, hcancel, hsetup⟩ := hu
  exact ⟨rfl, rfl, by simp [hevents], hcancel, hregs.trans (by simp [onlyRegs_iff]), hsetup⟩

/-! ### When a row runs -/

/-- A row of a reading state does not run on an answer it does not test for. -/
theorem exec_refuses_of_onRead {i : Instr} {st : Fsm} {p : ReadAnswer → Bool} {k : State → State} {s : State}
    (he : exec i s = onRead st p k s) (hp : ¬ p (readNow s) = true) : exec i s = .refused .rowDoesNotApply :=
  he.trans (onRead_refuses (Bool.not_eq_true _ ▸ hp))

/-- A row of a writing state does not run on the other result. -/
theorem exec_refuses_of_onWrite {i : Instr} {st : Fsm} {bs : List Byte} {res res' : WriteResult} {k : State → State}
    {s : State} (he : exec i s = onWrite st bs res k s) (hw : (writeChannel bs (afterCancel s)).1 = res')
    (hne : res' ≠ res) : exec i s = .refused .rowDoesNotApply :=
  he.trans (onWrite_refuses (hw.trans_ne hne))

/-- A bad answer has two rows: `i₁` for a NAK, a timeout or an unlisted byte, `i₂` for the byte `x` that is bad in this
state (R113). The row of the answer that was read runs on its side `q` of the bound, and not on the other. -/
theorem exec_bad_answer {i i₁ i₂ : Instr} {st : Fsm} {m : Stimulus} {x : Byte} {q : Bool} {k : State → State}
    {s : State} (he₁ : exec i₁ s = onRead st (fun a => isNakTimeoutOther a && q) k s)
    (he₂ : exec i₂ s = onRead st (fun a => isStim m a && q) k s) (hm : ∀ a, isStim m a = true ↔ a = .byte x)
    (hi : (i = i₁ ∧ NakTimeoutOther (readNow s)) ∨ (i = i₂ ∧ readNow s = .byte x)) (hs : s.fsm = st)
    (hc : cancelNow s = false) :
    (q = true → exec i s = .next (k (afterRead s))) ∧ (q = false → exec i s = .refused .rowDoesNotApply) := by
  obtain ⟨p, hp, he⟩ : ∃ p : ReadAnswer → Bool, p (readNow s) = true ∧ exec i s = onRead st (fun a => p a && q) k s := by
    obtain ⟨rfl, ha⟩ | ⟨rfl, ha⟩ := hi
    · exact ⟨_, (isNakTimeoutOther_iff _).2 ha, he₁⟩
    · exact ⟨_, (hm _).2 ha, he₂⟩
  exact ⟨fun hq => exec_of_onRead he hs hc (by simp [hp, hq]), fun hq => exec_refuses_of_onRead he (by simp [hq])⟩

theorem lastPoll_iff (s : State) : lastPoll s = true ↔ s.cfg.maxStartPolls ≤ s.pollCount + 1 := by simp [lastPoll]

theorem lastPoll_eq_false_iff (s : State) : lastPoll s = false ↔ s.pollCount + 1 < s.cfg.maxStartPolls := by
  simp [lastPoll]

theorem boundHit_iff (s : State) : boundHit s = true ↔ s.cfg.maxRetries < s.retryCount + 1 := by simp [boundHit]

theorem boundHit_eq_false_iff (s : State) : boundHit s = false ↔ s.retryCount + 1 ≤ s.cfg.maxRetries := by
  simp [boundHit]

/-! ### One CANCEL byte, a failed read, a set request -/

/-- Settles O20: the three rows are one row in three states. -/
theorem cancelByteFailsSession : Obligations.CancelByteFailsSession := by
  intro s i hi
  obtain ⟨st, hs, he⟩ : ∃ st, s.fsm = st ∧ exec i s = onRead st (isStim .can) (raiseFailed s .peerCancelled) s := by
    obtain ⟨rfl, hs⟩ | ⟨rfl, hs⟩ | ⟨rfl, hs⟩ := hi
    · exact ⟨_, hs, exec_startCan s⟩
    · exact ⟨_, hs, exec_ackCan s⟩
    · exact ⟨_, hs, exec_eotackCan s⟩
  refine ⟨fun hc hr => ⟨_, exec_of_onRead he hs hc ((isStim_can _).2 hr), rfl, ?_⟩, fun hr => ?_⟩
  · exact readStep_raiseFailed (registersOnly_update ..) (by simp [onlyRegs_iff])
  · exact exec_refuses_of_onRead he (by rwa [isStim_can])

/-- Settles O21: a failed read leaves no record. -/
theorem readErrorFailsSession : Obligations.ReadErrorFailsSession := by
  intro s i hi
  obtain ⟨st, hs, he⟩ : ∃ st, s.fsm = st ∧ exec i s = onRead st isIoError (raiseFailed s .ioError) s := by
    obtain ⟨rfl, hs⟩ | ⟨rfl, hs⟩ | ⟨rfl, hs⟩ := hi
    · exact ⟨_, hs, exec_startIoerr s⟩
    · exact ⟨_, hs, exec_ackIoerr s⟩
    · exact ⟨_, hs, exec_eotackIoerr s⟩
  refine ⟨fun hc hr => ⟨_, exec_of_onRead he hs hc ((isIoError_iff _).2 hr), ?_, ?_, ?_⟩, fun hr => ?_⟩
  · exact failStep_raiseFailed _ (by simpa [hr] using afterRead_operated s)
  · simp [ReadOnce]
  · simp [NoWrite]
  · exact exec_refuses_of_onRead he (by rwa [isIoError_iff])

/-- Settles O36: the two rows differ in the states they are for. -/
theorem cancelRequestFailsSession : Obligations.CancelRequestFailsSession := by
  intro s i hi
  obtain ⟨p, hp, he⟩ : ∃ p : Fsm → Bool, p s.fsm = true ∧ exec i s = onCancel p s := by
    obtain ⟨rfl, hs⟩ | ⟨rfl, hs⟩ := hi
    · exact ⟨_, by obtain hs | hs | hs | hs := hs <;> rw [hs] <;> rfl, exec_cancel s⟩
    · exact ⟨_, by obtain hs | hs := hs <;> rw [hs] <;> rfl, exec_cancelHi s⟩
  refine ⟨fun hc => ⟨_, he.trans (onCancel_next.2 ⟨⟨hp, hc⟩, rfl⟩), ?_, ?_, ?_, rfl⟩, fun hc => ?_⟩
  · exact failStep_raiseFailed _ (afterCancel_operated s)
  · simp [NoRead]
  · simp [NoWrite]
  · exact he.trans (if_neg (by simp [hc]))

/-! ### AWAIT_START -/

/-- Settles O19: the row tests for the byte alone, so the count of polls has no part in it. -/
theorem startByteStartsTransfer : Obligations.StartByteStartsTransfer := by
  intro s
  refine ⟨fun hs hc hr => ⟨_, exec_of_onRead (exec_startGo s) hs hc ((isStim_start _).2 hr), rfl, ?_⟩, fun hr => ?_⟩
  · exact readStep_finish (registersOnly_update ..) (by simp [onlyRegs_iff])
  · exact exec_refuses_of_onRead (exec_startGo s) (by rwa [isStim_start])

/-- Settles O22: both rows count a poll that is not the last. -/
theorem badPollIsCounted : Obligations.BadPollIsCounted := by
  intro s i hi hs hc
  obtain ⟨hrun, hrefuse⟩ := exec_bad_answer (exec_startPoll s) (exec_startPollAck s) isStim_ack hi hs hc
  simp only [Bool.not_eq_true', Bool.not_eq_false', lastPoll_iff, lastPoll_eq_false_iff] at hrun hrefuse
  refine ⟨fun hb => ⟨_, hrun hb, by simp, ?_⟩, hrefuse⟩
  exact readStep_finish (registersOnly_update ..) (by simp [onlyRegs_iff, hs])

/-- Settles O23: both rows count the last poll. -/
theorem lastBadPollFailsSession : Obligations.LastBadPollFailsSession := by
  intro s i hi hs hc
  obtain ⟨hrun, hrefuse⟩ := exec_bad_answer (exec_startExhaust s) (exec_startExhaustAck s) isStim_ack hi hs hc
  simp only [lastPoll_iff, lastPoll_eq_false_iff] at hrun hrefuse
  refine ⟨fun hb => ⟨_, hrun hb, by simp, rfl, ?_⟩, hrefuse⟩
  exact readStep_raiseFailed (registersOnly_update ..) (by simp [onlyRegs_iff])

/-! ### SEND_BLOCK -/

/-- The frame's write is the only channel operation of a first transmission. -/
theorem frameWrite_ok {c : List Byte} {s : State} (h : frameWriteNow c s = .ok) :
    WroteOnce (frameOf c s) s (afterFrameWrite c s) := by
  simp [WroteOnce, frameWriteNow_tx_ok h]

theorem frameWrite_ioError {c : List Byte} {s : State} (h : frameWriteNow c s = .ioError) :
    WriteFailed (frameOf c s) s (afterFrameWrite c s) :=
  ⟨by simp, frameWriteNow_tx_error h, by simp⟩

theorem afterFrameWrite_noRead (c : List Byte) (s : State) : NoRead s (afterFrameWrite c s) := by simp [NoRead]

theorem transmitChunk_refuses {c : List Byte} {s : State} (h : frameWriteNow c s = .ioError) :
    transmitChunk c s = .refused .rowDoesNotApply := if_neg (by simp [h])

/-- `BLOCK.SEND` on a chunk with a byte and `BLOCK.SEND_EMPTY` on the first, empty one are its first transmission. -/
theorem exec_send_eq {i : Instr} {s : State} {c : List Byte}
    (hi : (i = .blockSend ∧ c ≠ []) ∨ (i = .blockSendEmpty ∧ c = [] ∧ s.blockIndex = 0)) (hs : s.fsm = .sendBlock)
    (hc : cancelNow s = false) (hr : sourceNow s = .chunk c) : exec i s = transmitChunk c s := by
  obtain ⟨rfl, hne⟩ | ⟨rfl, rfl, hfirst⟩ := hi
  · exact (onChunk_runs hs hc hr).trans (if_neg (by simpa using hne))
  · exact (onChunk_runs hs hc hr).trans (if_pos (by simp [firstChunk, hfirst]))

/-- Settles O24: the frame's write and the registers of the first transmission. -/
theorem sendBlockTransmitsChunk : Obligations.SendBlockTransmitsChunk := by
  intro s i c hi hs hc hr hwf
  have hlen : c.length ≤ blockLen := sourceNow_length hr
  rw [exec_send_eq hi hs hc hr]
  refine ⟨fun hw => ?_, transmitChunk_refuses⟩
  have hrun := transmitChunk_runs hw hlen
  refine ⟨_, hrun, cachedPayload_of_transmitChunk hlen hwf hrun, ?_, rfl, ?_⟩
  · rw [blockLen] at hlen
    simp
    omega
  · exact writeStep_finish (afterFrameWrite_operated c s) (frameWrite_ok hw) (afterFrameWrite_noRead c s)
      (registersOnly_update ..) (by simp [onlyRegs_iff])

/-- Settles O25: the source read is the only operation. -/
theorem exhaustedSourceTurnsToEot : Obligations.ExhaustedSourceTurnsToEot := by
  intro s hs hc
  refine ⟨fun hr hlater => ⟨finish s .sendEot .none { afterSource s with retryCount := 0 }, ?_, rfl, rfl, by simp [hs],
    ?_, ?_, ?_, ?_⟩, fun hfirst => ?_⟩
  · exact (onChunk_runs hs hc hr).trans (if_pos (by simp [firstChunk, hlater]))
  · simp [NoRead]
  · simp [NoWrite]
  · simp [onlyRegs_iff]
  · simp [SameSetup]
  · cases hr : sourceNow s with
    | ioError => simp [exec_blockEof, execBlockEof, onChunk, hr]
    | chunk c => exact (onChunk_runs hs hc hr).trans (if_neg (by simp [firstChunk, hfirst]))

/-- Settles O26: the source read fails, or the write of the frame does. -/
theorem sendBlockErrorFailsSession : Obligations.SendBlockErrorFailsSession := by
  intro s hs hc
  refine ⟨fun hr => ⟨_, blockIoerr_runs_of_source hs hc hr, failStep_raiseFailed _ (afterSource_operated s), ?_, ?_⟩,
    fun c hr hne hw => ⟨_, blockIoerr_runs_of_frame hs hc hr ?_ hw,
      failStep_raiseFailed _ (afterFrameWrite_operated c s), afterFrameWrite_noRead c s, frameWrite_ioError hw⟩,
    fun c hr hw => ?_⟩
  · simp [NoRead]
  · simp [NoWrite]
  · obtain hne | hfirst := hne
    · simp [hne]
    · simp [firstChunk, hfirst]
  · simp [exec_blockIoerr, execBlockIoerr, hr, hw]

/-! ### AWAIT_ACK and RETRY -/

/-- Settles O27: the registers that `advance` writes, `retry_count` not among them. -/
theorem ackAdvancesSession : Obligations.AckAdvancesSession := by
  intro s
  refine ⟨fun hs hc hr => ⟨_, exec_of_onRead (exec_ackAdv s) hs hc ((isStim_ack _).2 hr), by simp, by simp, by simp,
    by simp [nextSeq], ?_⟩, fun hr => ?_⟩
  · exact readStep_finish (registersOnly_update ..) (by simp [onlyRegs_iff])
  · exact exec_refuses_of_onRead (exec_ackAdv s) (by rwa [isStim_ack])

/-- A bad answer within the bound, in AWAIT_ACK or AWAIT_EOT_ACK (R197, R210). -/
theorem countRetry_readStep (d : Fsm) (s : State) :
    (finish s d .none (countRetry (afterRead s))).retryCount = s.retryCount + 1 ∧
      ReadStep [.fsm, .retryCount] d .none s (finish s d .none (countRetry (afterRead s))) :=
  ⟨by simp, readStep_finish (registersOnly_update ..) (by simp [onlyRegs_iff])⟩

/-- A bad answer beyond the bound, in AWAIT_ACK or AWAIT_EOT_ACK (R198, R211). -/
theorem failRetries_readStep (r : FailReason) (s : State) :
    (raiseFailed s r (countRetry (afterRead s))).retryCount = s.retryCount + 1 ∧
      (raiseFailed s r (countRetry (afterRead s))).reason = some r ∧
      ReadStep [.fsm, .retryCount, .reason] .failed (.reason r) s (raiseFailed s r (countRetry (afterRead s))) :=
  ⟨by simp, rfl, readStep_raiseFailed (registersOnly_update ..) (by simp [onlyRegs_iff])⟩

/-- Settles O28: both rows count a retry within the bound. -/
theorem badAckIsRetried : Obligations.BadAckIsRetried := by
  intro s i hi hs hc
  obtain ⟨hrun, hrefuse⟩ := exec_bad_answer (exec_ackRetry s) (exec_ackRetryC s) isStim_start hi hs hc
  simp only [Bool.not_eq_true', Bool.not_eq_false', boundHit_iff, boundHit_eq_false_iff] at hrun hrefuse
  exact ⟨fun hb => ⟨_, hrun hb, countRetry_readStep .retry s⟩, hrefuse⟩

/-- Settles O29: both rows count the retry that exceeds the bound. -/
theorem exhaustedRetriesFailSession : Obligations.ExhaustedRetriesFailSession := by
  intro s i hi hs hc
  obtain ⟨hrun, hrefuse⟩ := exec_bad_answer (exec_ackExhaust s) (exec_ackExhaustC s) isStim_start hi hs hc
  simp only [boundHit_iff, boundHit_eq_false_iff] at hrun hrefuse
  exact ⟨fun hb => ⟨_, hrun hb, failRetries_readStep .maxRetriesExceeded s⟩, hrefuse⟩

/-- Settles O30: the frame laid out again is the one written. -/
theorem retryWritesCachedBlock : Obligations.RetryWritesCachedBlock := by
  intro s hs hc
  refine ⟨fun hw => ⟨_, exec_of_onWrite (exec_retrySend s) hs hc hw, by simp, ?_⟩,
    fun hw => exec_refuses_of_onWrite (exec_retrySend s) hw (by decide)⟩
  exact writeStep_finish (afterWrite_operated _ s) (wroteOnce_of_ok hw) (writeChannel_noRead _ (afterCancel s))
    (registersOnly_update ..) (by simp [onlyRegs_iff])

/-- Settles O31: the two rows are one row in two states. -/
theorem writeErrorFailsSession : Obligations.WriteErrorFailsSession := by
  intro s i bs hi hc
  obtain ⟨st, hs, he⟩ : ∃ st, s.fsm = st ∧ exec i s = onWrite st bs .ioError (raiseFailed s .ioError) s := by
    obtain ⟨rfl, hs, rfl⟩ | ⟨rfl, hs, rfl⟩ := hi
    · exact ⟨_, hs, exec_retryIoerr s⟩
    · exact ⟨_, hs, exec_eotIoerr s⟩
  refine ⟨fun hw => ⟨_, exec_of_onWrite he hs hc hw, failStep_raiseFailed _ (afterWrite_operated bs s), ?_, ?_⟩,
    fun hw => exec_refuses_of_onWrite he hw (by decide)⟩
  · exact writeChannel_noRead bs (afterCancel s)
  · exact writeFailed_of_ioError hw

/-! ### SEND_EOT and AWAIT_EOT_ACK -/

/-- Settles O32: one write, after which only the state moves on. -/
theorem eotIsSent : Obligations.EotIsSent := by
  intro s hs hc
  refine ⟨fun hw => ⟨_, exec_of_onWrite (exec_eotSend s) hs hc hw, by simp, ?_⟩,
    fun hw => exec_refuses_of_onWrite (exec_eotSend s) hw (by decide)⟩
  exact writeStep_finish (afterWrite_operated _ s) (wroteOnce_of_ok hw) (writeChannel_noRead _ (afterCancel s))
    (registersOnly_update ..) (by simp [onlyRegs_iff])

/-- Settles O33: the read gives the byte the row tests for. -/
theorem eotAckEndsSession : Obligations.EotAckEndsSession := by
  intro s
  refine ⟨fun hs hc hr => ⟨_, exec_of_onRead (exec_eotackDone s) hs hc ((isStim_ack _).2 hr), ?_⟩, fun hr => ?_⟩
  · exact readStep_finish (registersOnly_update ..) (by simp [onlyRegs_iff])
  · exact exec_refuses_of_onRead (exec_eotackDone s) (by rwa [isStim_ack])

/-- Settles O34: both rows count a retry within the bound. -/
theorem badEotAckIsRetried : Obligations.BadEotAckIsRetried := by
  intro s i hi hs hc
  obtain ⟨hrun, hrefuse⟩ := exec_bad_answer (exec_eotackRetry s) (exec_eotackRetryC s) isStim_start hi hs hc
  simp only [Bool.not_eq_true', Bool.not_eq_false', boundHit_iff, boundHit_eq_false_iff] at hrun hrefuse
  exact ⟨fun hb => ⟨_, hrun hb, countRetry_readStep .sendEot s⟩, hrefuse⟩

/-- Settles O35: both rows count the retry that exceeds the bound. -/
theorem exhaustedEotFailsSession : Obligations.ExhaustedEotFailsSession := by
  intro s i hi hs hc
  obtain ⟨hrun, hrefuse⟩ := exec_bad_answer (exec_eotackExhaust s) (exec_eotackExhaustC s) isStim_start hi hs hc
  simp only [boundHit_iff, boundHit_eq_false_iff] at hrun hrefuse
  exact ⟨fun hb => ⟨_, hrun hb, failRetries_readStep .eotNotAcked s⟩, hrefuse⟩

end Sys2Proof.Machine
end

section
/-! SUPPORT. The machine of R220 and the end of a session. Every transition row that answers a next state leads along an edge
of the table and moves on (`transition_tableStep`); so in a live state a step makes a register move, and every register move
brings the session nearer to its end (`Move.stepsLeft_lt`). -/

namespace Sys2Proof.Machine

/-! ### What a step runs -/

theorem runCall_of_decode {c : Call} {i : Instr} (hd : decode c = .ok i) (hw : i.wellFormed = true) (s : State) :
    runCall c s = exec i s := by
  simp [runCall, hd, hw]

/-- The step of a terminal state stops (R216). -/
theorem step_terminal {s : State} (hs : s.fsm = .done ∨ s.fsm = .failed) (hcalls : s.calls = [])
    (hlegal : legalConfig s = true) : step s = .fault .sessionOver := by
  obtain hs | hs := hs
  · have hkey : decode (.fsmKey (transitionKey s)) = .ok .haltDone := by
      simpa [decode, transitionKey, isTerminal, hs] using decodeKey_done
    rw [step_transition hcalls hlegal, runCall_of_decode hkey rfl]
    exact if_pos hs
  · have hkey : decode (.fsmKey (transitionKey s)) = .ok .haltFailed := by
      simpa [decode, transitionKey, isTerminal, hs] using decodeKey_failed
    rw [step_transition hcalls hlegal, runCall_of_decode hkey rfl]
    exact if_pos hs

/-- A step with no call waiting that answers a next state ran a transition row. -/
theorem step_next_transition {s t : State} (hcalls : s.calls = []) (h : step s = .next t) :
    ∃ i k, encode i = .fsmKey k ∧ exec i s = .next t := by
  obtain ⟨i, u, -, hexec, ⟨-, rfl, hdecode⟩ | ⟨c, cs, hc, -⟩⟩ := step_next h
  · obtain ⟨k, hk⟩ := encode_of_decodeKey hdecode
    exact ⟨i, k, hk, hexec⟩
  · simp [hcalls] at hc

/-! ### A step follows the transition table -/

/-- At most one record, and no `EV_TRANS`. -/
def AtMostOneNote (es : List Event) : Prop := es.length ≤ 1 ∧ ∀ e ∈ es, e.kind ≠ .trans

/-- The step from `s` to `t` leads along an edge of R220, leaves at most one `EV_TX` or `EV_RX` and then the one `EV_TRANS`
of that edge, and moves on: to another state, or to the next poll. -/
structure TableStep (s t : State) : Prop where
  edge : (s.fsm, t.fsm) ∈ edges
  reason : t.fsm = .failed → t.reason ≠ none
  events : ∃ (es : List Event) (o : EventOutcome),
    t.events = s.events ++ es ++ [evTrans s.seq s.fsm t.fsm o] ∧ AtMostOneNote es
  calls : t.calls = s.calls
  progress : t.fsm ≠ s.fsm ∨ t.pollCount ≠ s.pollCount

theorem atMostOneNote_nil : AtMostOneNote [] := by simp [AtMostOneNote]

theorem atMostOneNote_rxEvents (q : Byte) (a : ReadAnswer) : AtMostOneNote (rxEvents q a) := by
  cases a <;> simp [AtMostOneNote, evRx]

theorem atMostOneNote_evTx (q n : Byte) : AtMostOneNote [evTx q n] := by simp [AtMostOneNote, evTx]

/-- The record of a channel operation, after operations that left none. -/
theorem Operated.emit {s u : State} (h : Operated s u []) (e : Event) : Operated s (emit e u) [e] :=
  ⟨h.regs.trans ((emit_outward e u).onlyRegs rfl), by simp [h.events], h.cancelReq, h.setup⟩

theorem Operated.calls {s u : State} {es : List Event} (h : Operated s u es) : u.calls = s.calls := by
  obtain ⟨-, -, hcalls, -⟩ := h.setup
  exact hcalls

theorem RegistersOnly.calls {u v : State} (h : RegistersOnly u v) : v.calls = u.calls := by
  obtain ⟨-, -, hcalls, -⟩ := h.setup
  exact hcalls

section Ends
variable {s u v : State} {es : List Event}

theorem tableStep_finish {st d : Fsm} (o : EventOutcome) (hs : s.fsm = st) (hu : Operated s u es)
    (hes : AtMostOneNote es) (hv : RegistersOnly u v)
    (hd : (st, d) ∈ edges ∧ d ≠ .failed) (hp : d ≠ st ∨ v.pollCount ≠ s.pollCount) :
    TableStep s (finish s d o v) where
  edge := hs ▸ hd.1
  reason := fun h => absurd h hd.2
  events := ⟨es, o, by simp [hv.events, hu.events], hes⟩
  calls := hv.calls.trans hu.calls
  progress := hs ▸ hp

theorem tableStep_raiseFailed {st : Fsm} (r : FailReason) (hs : s.fsm = st) (hu : Operated s u es)
    (hes : AtMostOneNote es) (hv : RegistersOnly u v) (hd : (st, .failed) ∈ edges ∧ .failed ≠ st) :
    TableStep s (raiseFailed s r v) where
  edge := hs ▸ hd.1
  reason := by simp
  events := ⟨es, .reason r, by simp [hv.events, hu.events], hes⟩
  calls := hv.calls.trans hu.calls
  progress := .inl (hs ▸ hd.2)

end Ends

/-- A row of a reading state: the move is made on the state after the read. -/
theorem tableStep_of_onRead {st : Fsm} {p : ReadAnswer → Bool} {k : State → State} {s t : State}
    (h : onRead st p k s = .next t)
    (hk : ∀ u es, Operated s u es → AtMostOneNote es → s.fsm = st → TableStep s (k u)) : TableStep s t := by
  obtain ⟨⟨hs, -, -⟩, rfl⟩ := onRead_next.1 h
  exact hk _ _ (afterRead_operated s) (atMostOneNote_rxEvents _ _) hs

theorem tableStep_of_onWrite {st : Fsm} {bs : List Byte} {res : WriteResult} {k : State → State} {s t : State}
    (h : onWrite st bs res k s = .next t) (hk : ∀ u, Operated s u [] → s.fsm = st → TableStep s (k u)) :
    TableStep s t := by
  obtain ⟨⟨hs, -, -⟩, rfl⟩ := onWrite_next.1 h
  exact hk _ (afterWrite_operated bs s) hs

theorem tableStep_of_onCancel {p : Fsm → Bool} {s t : State} (h : onCancel p s = .next t)
    (hp : ∀ f, p f = true → (f, .failed) ∈ edges ∧ .failed ≠ f) : TableStep s t := by
  obtain ⟨⟨hs, -⟩, rfl⟩ := onCancel_next.1 h
  exact tableStep_raiseFailed _ rfl (afterCancel_operated s) atMostOneNote_nil (registersOnly_update ..) (hp _ hs)

theorem tableStep_of_transmitChunk {c : List Byte} {s t : State} (h : transmitChunk c s = .next t)
    (hs : s.fsm = .sendBlock) (hc : sourceNow s = .chunk c) : TableStep s t := by
  obtain ⟨-, rfl⟩ := (transmitChunk_next (sourceNow_length hc)).1 h
  exact tableStep_finish _ hs ((afterFrameWrite_operated c s).emit _) (atMostOneNote_evTx _ _)
    (registersOnly_update ..) (by decide) (.inl (by decide))

theorem tableStep_of_blockIoerr {s t : State} (h : execBlockIoerr s = .next t) : TableStep s t := by
  unfold execBlockIoerr at h
  split_ifs at h with hs
  split at h
  · cases h
    exact tableStep_raiseFailed _ hs.1 (afterSource_operated s) atMostOneNote_nil (registersOnly_update ..) (by decide)
  · split_ifs at h
    cases h
    exact tableStep_raiseFailed _ hs.1 (afterFrameWrite_operated _ s) atMostOneNote_nil (registersOnly_update ..)
      (by decide)

/-- Every transition row that answers a next state follows the table. -/
theorem transition_tableStep {i : Instr} {k : BitVec 10} {s t : State} (hk : encode i = .fsmKey k)
    (h : exec i s = .next t) : TableStep s t := by
  cases i with dsimp only [exec] at h
  | rxAck | rxNak | rxCan | rxStart | rxOther | txFrame | txEot | crcInit | crcRound | crcByte | crcBlock | frPad
  | frCmpl | frFrame | srcRead | chRead | chWrite | reset | evtEmit => cases hk
  | haltDone | haltFailed =>
    simp only [execHaltDone, execHaltFailed] at h
    split_ifs at h
  | cancel | cancelHi => exact tableStep_of_onCancel h fun f => by cases f <;> decide
  | startPoll | startPollAck =>
    refine tableStep_of_onRead h fun u es hu hes hs =>
      tableStep_finish _ hs hu hes (registersOnly_update ..) (by decide) (.inr ?_)
    have hpoll : u.pollCount = s.pollCount := hu.regs .pollCount (by simp)
    simp [hpoll]
  | startGo | ackAdv | ackRetry | ackRetryC | eotackDone | eotackRetry | eotackRetryC =>
    exact tableStep_of_onRead h fun u es hu hes hs =>
      tableStep_finish _ hs hu hes (registersOnly_update ..) (by decide) (.inl (by decide))
  | startCan | startIoerr | startExhaust | startExhaustAck | ackCan | ackExhaust | ackExhaustC | ackIoerr
  | eotackCan | eotackExhaust | eotackExhaustC | eotackIoerr =>
    exact tableStep_of_onRead h fun u es hu hes hs =>
      tableStep_raiseFailed _ hs hu hes (registersOnly_update ..) (by decide)
  | retrySend | eotSend =>
    exact tableStep_of_onWrite h fun u hu hs =>
      tableStep_finish _ hs (hu.emit _) (atMostOneNote_evTx _ _) (registersOnly_update ..) (by decide)
        (.inl (by decide))
  | retryIoerr | eotIoerr =>
    exact tableStep_of_onWrite h fun u hu hs =>
      tableStep_raiseFailed _ hs hu atMostOneNote_nil (registersOnly_update ..) (by decide)
  | blockSend | blockSendEmpty =>
    obtain ⟨hs, -, c, hc, hsend⟩ := onChunk_next.1 h
    split_ifs at hsend
    exact tableStep_of_transmitChunk hsend hs hc
  | blockEof =>
    obtain ⟨hs, -, c, -, hend⟩ := onChunk_next.1 h
    split_ifs at hend
    cases hend
    exact tableStep_finish _ hs (afterSource_operated s) atMostOneNote_nil (registersOnly_update ..) (by decide)
      (.inl (by decide))
  | blockIoerr => exact tableStep_of_blockIoerr h

/-- What moves on is no outward operation, so a transition makes a register move. -/
theorem transition_moves {i : Instr} {k : BitVec 10} {s t : State} (hk : encode i = .fsmKey k)
    (h : exec i s = .next t) : Moves s t := by
  obtain hout | hmoves := exec_next h (by rintro rfl; cases hk)
  · obtain hfsm | hpoll := (transition_tableStep hk h).progress
    · exact absurd hout.fsm hfsm
    · exact absurd hout.pollCount hpoll
  · exact hmoves

/-! ### The measure -/

theorem stepsFromBlock_succ (m n : Nat) : stepsFromBlock m (n + 1) = stepsFromBlock m n + (2 + 2 * m) := by
  rw [stepsFromBlock, stepsFromBlock, Nat.succ_mul]
  omega

/-- The end phase alone. -/
theorem le_stepsFromBlock (m n : Nat) : 1 + 2 * (m + 1) ≤ stepsFromBlock m n := by
  rw [stepsFromBlock]
  omega

section Measure
variable {s : State}

theorem stepsLeft_awaitStart (h : s.fsm = .awaitStart) :
    stepsLeft s = (s.cfg.maxStartPolls - s.pollCount) + stepsFromBlock s.cfg.maxRetries (blocksOf s) := by
  simp only [stepsLeft, h]

theorem stepsLeft_sendBlock (h : s.fsm = .sendBlock) :
    stepsLeft s = stepsFromBlock s.cfg.maxRetries (blocksOf s - s.blockIndex) := by simp only [stepsLeft, h]

theorem stepsLeft_awaitAck (h : s.fsm = .awaitAck) :
    stepsLeft s = 1 + 2 * (s.cfg.maxRetries - s.retryCount)
      + stepsFromBlock s.cfg.maxRetries (blocksOf s - s.blockIndex - 1) := by simp only [stepsLeft, h]

theorem stepsLeft_retry (h : s.fsm = .retry) :
    stepsLeft s = 2 + 2 * (s.cfg.maxRetries - s.retryCount)
      + stepsFromBlock s.cfg.maxRetries (blocksOf s - s.blockIndex - 1) := by simp only [stepsLeft, h]

theorem stepsLeft_sendEot (h : s.fsm = .sendEot) : stepsLeft s = 2 + 2 * (s.cfg.maxRetries - s.retryCount) := by
  simp only [stepsLeft, h]

theorem stepsLeft_awaitEotAck (h : s.fsm = .awaitEotAck) :
    stepsLeft s = 1 + 2 * (s.cfg.maxRetries - s.retryCount) := by simp only [stepsLeft, h]

/-- A session that has not ended has a step left. -/
theorem stepsLeft_pos (hlive : isTerminal s.fsm = false) : 0 < stepsLeft s := by
  cases hs : s.fsm with
  | awaitStart => rw [stepsLeft_awaitStart hs, stepsFromBlock]; omega
  | sendBlock => rw [stepsLeft_sendBlock hs, stepsFromBlock]; omega
  | awaitAck => rw [stepsLeft_awaitAck hs]; omega
  | retry => rw [stepsLeft_retry hs]; omega
  | sendEot => rw [stepsLeft_sendEot hs]; omega
  | awaitEotAck => rw [stepsLeft_awaitEotAck hs]; omega
  | done | failed => simp [hs, isTerminal] at hlive

end Measure

/-- The measure reads the setup, the state and three counters, which outward operations keep. -/
theorem Outward.stepsLeft {s u : State} (h : Outward s u) : stepsLeft u = stepsLeft s := by
  simp only [Machine.stepsLeft, h.fsm, h.cfg, h.pollCount, h.retryCount, h.blockIndex, blocksOf_congr h.src]

/-! ### Every move brings the session nearer to its end -/

/-- Every register move decreases the measure. -/
theorem Move.stepsLeft_lt {s u t : State} (hu : Outward s u) (hs : SessionInv s) (h : Move s u t) :
    stepsLeft t < stepsLeft s := by
  have hinv : SessionInv u := hs.outward hu
  have hpos : 0 < stepsLeft u := hu.stepsLeft ▸ stepsLeft_pos h.live
  have hblocks : blocksOf t = blocksOf u := blocksOf_congr h.grows.src
  rw [← hu.stepsLeft]
  cases h with
  | fail | failPolls | failRetries => exact hpos
  | poll hf =>
    have hf : u.fsm = .awaitStart := hu.fsm.trans hf
    have hpolls := hinv.pollsLive (by simp [hf, isTerminal])
    rw [stepsLeft_awaitStart (finish_fsm ..), stepsLeft_awaitStart hf, hblocks]
    simp only [finish_cfg, countPoll_cfg, finish_pollCount, countPoll_pollCount]
    omega
  | go hf =>
    have hf : u.fsm = .awaitStart := hu.fsm.trans hf
    have hpolls := hinv.pollsLive (by simp [hf, isTerminal])
    obtain ⟨hindex, -⟩ := hinv.atStart hf
    rw [stepsLeft_sendBlock (finish_fsm ..), stepsLeft_awaitStart hf, hblocks]
    simp only [finish_cfg, finish_blockIndex, hindex, Nat.sub_zero]
    omega
  | transmit c hf hc he =>
    have hf : u.fsm = .sendBlock := hu.fsm.trans hf
    have hblock : u.blockIndex < blocksOf u := by
      refine hinv.block_of_chunk fun hempty => ?_
      rw [hu.src, hu.filePos, ← sourceNow_chunk hc] at hempty
      simpa [firstChunk, hu.blockIndex] using he (List.isEmpty_iff.2 hempty)
    obtain ⟨n, hn⟩ := Nat.exists_eq_add_of_lt hblock
    have hleft : blocksOf u - u.blockIndex = n + 1 := by omega
    rw [stepsLeft_awaitAck (transmitted_fsm ..), stepsLeft_sendBlock hf, hblocks]
    simp only [transmitted_cfg, transmitted_retryCount, transmitted_blockIndex, hleft, Nat.add_sub_cancel,
      stepsFromBlock_succ]
    omega
  | endOfSource hf =>
    have hf : u.fsm = .sendBlock := hu.fsm.trans hf
    have hlast := le_stepsFromBlock u.cfg.maxRetries (blocksOf u - u.blockIndex)
    rw [stepsLeft_sendEot (finish_fsm ..), stepsLeft_sendBlock hf]
    simp only [finish_cfg, finish_retryCount]
    omega
  | advance hf =>
    have hf : u.fsm = .awaitAck := hu.fsm.trans hf
    rw [stepsLeft_sendBlock (finish_fsm ..), stepsLeft_awaitAck hf, hblocks]
    simp [Nat.sub_sub]
  | retry dst hf hb =>
    have hb : u.retryCount + 1 ≤ u.cfg.maxRetries := (boundHit_eq_false_iff u).1 (hu.boundHit.trans hb)
    obtain ⟨hf, rfl⟩ | ⟨hf, rfl⟩ := hf <;> rw [← hu.fsm] at hf
    · rw [stepsLeft_retry (finish_fsm ..), stepsLeft_awaitAck hf, hblocks]
      simp only [finish_cfg, countRetry_cfg, finish_retryCount, countRetry_retryCount, finish_blockIndex,
        countRetry_blockIndex]
      omega
    · rw [stepsLeft_sendEot (finish_fsm ..), stepsLeft_awaitEotAck hf]
      simp only [finish_cfg, countRetry_cfg, finish_retryCount, countRetry_retryCount]
      omega
  | onward dst o hf =>
    obtain ⟨hf, rfl⟩ | ⟨hf, rfl⟩ | ⟨hf, rfl⟩ := hf <;> rw [← hu.fsm] at hf
    · rw [stepsLeft_awaitAck (finish_fsm ..), stepsLeft_retry hf, hblocks]
      simp
    · rw [stepsLeft_awaitEotAck (finish_fsm ..), stepsLeft_sendEot hf]
      simp
    · exact hpos

/-- A step of a live session, with no call waiting, leaves less to do. -/
theorem step_stepsLeft_lt {s t : State} (hs : SessionInv s) (hcalls : s.calls = []) (h : step s = .next t) :
    stepsLeft t < stepsLeft s := by
  obtain ⟨i, k, hk, hexec⟩ := step_next_transition hcalls h
  obtain ⟨u, hu, hmove⟩ := transition_moves hk hexec
  exact hmove.stepsLeft_lt hu hs

/-! ### A run of the machine -/

theorem run_of_step_next {s t : State} (h : step s = .next t) (n : Nat) :
    Host.Core.run Sys2Proof.core (n + 1) s = Host.Core.run Sys2Proof.core n t := by
  have h : Sys2Proof.core.step s = .next t := h
  simp only [Host.Core.run, h]

theorem run_of_step_fault {s : State} {r : Fault} (h : step s = .fault r) (n : Nat) :
    Host.Core.run Sys2Proof.core (n + 1) s = .fault r := by
  have h : Sys2Proof.core.step s = .fault r := h
  simp only [Host.Core.run, h]

/-- The states from which a session runs on by transitions alone. -/
structure Running (s : State) : Prop where
  inv : SessionInv s
  calls : s.calls = []
  legal : legalConfig s = true

theorem Running.step {s t : State} (hs : Running s) (h : step s = .next t) : Running t := by
  obtain ⟨i, k, hk, hexec⟩ := step_next_transition hs.calls h
  have hgrows := exec_grows hexec
  refine ⟨sessionInvariantKept s t hs.inv h, (transition_tableStep hk hexec).calls.trans hs.calls, ?_⟩
  rw [legalConfig, hgrows.cfg, hgrows.src]
  exact hs.legal

theorem Running.stops {s : State} (hs : Running s) (hover : isTerminal s.fsm = true) (n : Nat) :
    Host.Core.run Sys2Proof.core (n + 1) s = .fault .sessionOver :=
  run_of_step_fault (step_terminal (by simpa [isTerminal] using hover) hs.calls hs.legal) n

/-- A session ends in as many steps as the measure allows. -/
theorem Running.ends {s : State} (hs : Running s) {n : Nat} (hn : stepsLeft s ≤ n) :
    Host.Core.run Sys2Proof.core (n + 1) s = .fault .sessionOver := by
  induction n generalizing s with
  | zero =>
    refine hs.stops ?_ 0
    by_contra hlive
    have hpos := stepsLeft_pos (Bool.not_eq_true _ ▸ hlive)
    omega
  | succ n ih =>
    cases hlive : isTerminal s.fsm with
    | true => exact hs.stops hlive _
    | false =>
      obtain ⟨t, ht⟩ := everyLiveStateHasStep s hlive hs.calls hs.legal
      have hless := step_stepsLeft_lt hs.inv hs.calls ht
      rw [run_of_step_next ht]
      exact ih (hs.step ht) (by omega)

/-! ### The advance of a sequence number -/

/-- `n` advances from a number other than 0, in natural numbers: 1 to 255 in a circle (R200). -/
theorem iterate_nextSeq_toNat {q : Byte} (hq : q ≠ 0) (n : Nat) :
    (nextSeq^[n] q).toNat = (q.toNat - 1 + n) % 255 + 1 := by
  have hlt := q.isLt
  have hpos : q.toNat ≠ 0 := fun h => hq (BitVec.eq_of_toNat_eq h)
  induction n with
  | zero => rw [Function.iterate_zero_apply]; omega
  | succ n ih =>
    rw [Function.iterate_succ_apply', nextSeq_toNat, ih]
    split_ifs <;> omega

/-! ### The obligations -/

/-- Settles O45: the step ran a transition row. -/
theorem stepFollowsTransitionTable : Obligations.StepFollowsTransitionTable := by
  intro s t hcalls h
  obtain ⟨i, k, hk, hexec⟩ := step_next_transition hcalls h
  obtain ⟨hedge, hreason, hevents, -, -⟩ := transition_tableStep hk hexec
  exact ⟨hedge, hreason, hevents⟩

/-- Settles O50: the measure falls with every step, and in a terminal state the machine stops. -/
theorem everySessionEnds : Obligations.EverySessionEnds := by
  refine ⟨fun s hinv hcalls hlegal => Running.ends ⟨hinv, hcalls, hlegal⟩ le_rfl, fun s hs hpolls => ?_⟩
  rw [stepsLeft_awaitStart hs, hpolls, stepsFromBlock]
  omega

/-- Settles O55: the advance is a step in a circle of 255. -/
theorem sequenceCycleSkipsZero : Obligations.SequenceCycleSkipsZero := by
  refine ⟨fun q => ⟨rfl, ?_⟩, fun q => ?_, fun q hq => ?_, fun q n hq hn hless hback => ?_⟩
  · have hwrap : q = 255 ↔ q + 1 = 0 := by bv_omega
    exact if_congr hwrap rfl rfl
  · have hlt := q.isLt
    rw [nextSeq_toNat]
    split_ifs <;> omega
  · have hlt := q.isLt
    have hpos : q.toNat ≠ 0 := fun h => hq (BitVec.eq_of_toNat_eq h)
    apply BitVec.eq_of_toNat_eq
    rw [iterate_nextSeq_toNat hq]
    omega
  · have hlt := q.isLt
    have hcycle := iterate_nextSeq_toNat hq n
    rw [hback] at hcycle
    omega

/-- Settles O37: the key of a terminal state selects the row that stops. -/
theorem terminalStatesHaveNoStep : Obligations.TerminalStatesHaveNoStep :=
  ⟨fun _ hs => if_pos hs, fun _ hs => if_pos hs, fun _ => step_terminal⟩

/-- Settles O39: what was fetched is decoded, checked and executed. -/
theorem stepRunsFetchedInstruction : Obligations.StepRunsFetchedInstruction :=
  ⟨fun _ _ _ _ hcalls hd hw => (step_call hcalls).trans (runCall_of_decode hd hw _),
    fun _ _ hcalls hlegal hd hw => (step_transition hcalls hlegal).trans (runCall_of_decode hd hw _)⟩

/-- Settles O56: with every Block acknowledged the cursor stands at the end of the source. -/
theorem doneReportsWholeSource : Obligations.DoneReportsWholeSource := by
  intro s hinv hs
  have hall : s.blockIndex = blocksOf s := hinv.allAcknowledged (.inr (.inr hs))
  have hsent : s.bytesSent = s.src.length := by
    have hpos := hinv.cursorOfBlock
    rw [hall, blocksOf_eq] at hpos
    rw [hinv.bytesAreCursor, hpos]
    omega
  exact ⟨hsent, hall, by simp [sessionResult, hs, hsent]⟩

end Sys2Proof.Machine
end

section
/-! SUPPORT. The driver's side of the block: session creation, the event stream and the result it reads. That the stream
has no influence (R249) is one equation: a step on a state with older records put before its own answers what the step
answers without them, with the same records put before (`step_precede`). It is proved for each shape of an instruction's
meaning and holds for a stop and a refusal as well. -/

namespace Sys2Proof.Machine

/-! ### Older records -/

/-- `s` with the records of `old` before those of its event stream. -/
def precede (old : List Event) (s : State) : State := { s with events := old ++ s.events }

/-- The answer with `old` before the records of its state; a stop and a refusal carry none. -/
def precedeOut (old : List Event) : Out → Out
  | .next t => .next (precede old t)
  | .fault f => .fault f
  | .refused r => .refused r

/-- Every state is its records before the same state without records. -/
theorem precede_events (s : State) : precede s.events { s with events := [] } = s := by simp [precede]

theorem precedeOut_eq_next {old : List Event} {o : Out} {t : State} :
    precedeOut old o = .next t ↔ ∃ u, o = .next u ∧ precede old u = t := by
  cases o <;> simp [precedeOut]

section Stream
variable {old : List Event} {s : State}

/-! ### The operations -/

theorem emit_precede (e : Event) (s : State) : emit e (precede old s) = precede old (emit e s) := by
  simp [emit, precede]

/-- The end of a step, on a state `w` that is `v` with older records. -/
theorem finish_precede {s0 v w : State} {d : Fsm} {o : EventOutcome} (hw : w = precede old v) :
    finish s0 d o w = precede old (finish s0 d o v) := by
  rw [hw, finish, emit_precede]
  rfl

theorem raiseFailed_precede {s0 v w : State} {r : FailReason} (hw : w = precede old v) :
    raiseFailed s0 r w = precede old (raiseFailed s0 r v) := by
  rw [raiseFailed, finish_precede hw]
  rfl

theorem noteRead_precede (a : ReadAnswer) (s : State) : noteRead a (precede old s) = precede old (noteRead a s) := by
  cases a with
  | byte b => exact emit_precede (evRx s.seq b) s
  | timeout | ioError => rfl

theorem afterRead_precede : afterRead (precede old s) = precede old (afterRead s) :=
  noteRead_precede (readNow s) (readChannel (stateTimeout s) (afterCancel s)).2

theorem seq_precede : (precede old s).seq = s.seq := rfl

theorem payloadOf_precede (c : List Byte) : payloadOf c (precede old s) = payloadOf c s := rfl

theorem sourceNow_precede : sourceNow (precede old s) = sourceNow s := rfl

theorem afterSource_precede : afterSource (precede old s) = precede old (afterSource s) := rfl

theorem afterCancel_precede : afterCancel (precede old s) = precede old (afterCancel s) := rfl

theorem writeChannel_precede (bs : List Byte) (s : State) :
    writeChannel bs (precede old s) = ((writeChannel bs s).1, precede old (writeChannel bs s).2) := by
  unfold writeChannel
  dsimp only [precede]
  cases s.wrAnswers.headD (Config.freeWrite s.tick) <;> rfl

theorem frameWriteNow_precede (c : List Byte) : frameWriteNow c (precede old s) = frameWriteNow c s := by
  have h := writeChannel_precede (old := old) (frameOf c s) (afterSource s)
  exact (congrArg Prod.fst h :)

theorem afterFrameWrite_precede (c : List Byte) :
    afterFrameWrite c (precede old s) = precede old (afterFrameWrite c s) := by
  have h := writeChannel_precede (old := old) (frameOf c s) (afterSource s)
  exact (congrArg Prod.snd h :)

theorem writePay_precede (a : Nat) (v : List Byte) (s : State) :
    writePay a v (precede old s) = (writePay a v s).map (precede old) := by
  unfold writePay
  split_ifs <;> rfl

theorem transmitted_precede (c : List Byte) (s u : State) :
    transmitted c (precede old s) (precede old u) = precede old (transmitted c s u) := finish_precede rfl

/-! ### The shapes of a meaning -/

theorem onRead_precede {st : Fsm} {p : ReadAnswer → Bool} {k : State → State}
    (hk : ∀ u, k (precede old u) = precede old (k u)) :
    onRead st p k (precede old s) = precedeOut old (onRead st p k s) := by
  unfold onRead
  rw [afterRead_precede, hk, apply_ite (precedeOut old)]
  rfl

theorem onWrite_precede {st : Fsm} {bs : List Byte} {res : WriteResult} {k : State → State}
    (hk : ∀ u, k (precede old u) = precede old (k u)) :
    onWrite st bs res k (precede old s) = precedeOut old (onWrite st bs res k s) := by
  unfold onWrite
  rw [afterCancel_precede, writeChannel_precede, hk, apply_ite (precedeOut old)]
  rfl

theorem onCancel_precede {p : Fsm → Bool} : onCancel p (precede old s) = precedeOut old (onCancel p s) := by
  unfold onCancel
  rw [raiseFailed_precede afterCancel_precede, apply_ite (precedeOut old)]
  rfl

theorem onChunk_precede {k k' : List Byte → Out} (hk : ∀ c, k' c = precedeOut old (k c)) :
    onChunk k' (precede old s) = precedeOut old (onChunk k s) := by
  unfold onChunk
  rw [sourceNow_precede, apply_ite (precedeOut old)]
  cases sourceNow s with
  | chunk c => dsimp only; rw [hk]; rfl
  | ioError => rfl

theorem transmitChunk_precede {c : List Byte} :
    transmitChunk c (precede old s) = precedeOut old (transmitChunk c s) := by
  unfold transmitChunk
  rw [frameWriteNow_precede, afterFrameWrite_precede, emit_precede, writePay_precede, payloadOf_precede, seq_precede,
    apply_ite (precedeOut old)]
  cases writePay 0 (payloadOf c s) (emit (evTx s.seq 133) (afterFrameWrite c s)) with
  | some u => exact if_congr Iff.rfl (congrArg Host.Outcome.next (transmitted_precede c s u)) rfl
  | none => rfl

theorem blockIoerr_precede : execBlockIoerr (precede old s) = precedeOut old (execBlockIoerr s) := by
  unfold execBlockIoerr
  rw [sourceNow_precede, apply_ite (precedeOut old)]
  cases sourceNow s with
  | ioError =>
    dsimp only
    rw [raiseFailed_precede afterSource_precede]
    rfl
  | chunk c =>
    dsimp only
    rw [frameWriteNow_precede, raiseFailed_precede (afterFrameWrite_precede c), apply_ite (precedeOut old)]
    rfl

theorem classified_precede {b : Byte} {c : ControlClass} :
    classified b c (precede old s) = precedeOut old (classified b c s) := by
  unfold classified
  rw [apply_ite (precedeOut old)]
  rfl

theorem transmit_precede {bs : List Byte} : transmit bs (precede old s) = precedeOut old (transmit bs s) := by
  unfold transmit
  rw [writeChannel_precede]
  rfl

/-! ### Instructions and steps -/

theorem exec_precede (i : Instr) : exec i (precede old s) = precedeOut old (exec i s) := by
  cases i with dsimp only [exec]
  | rxAck | rxNak | rxCan | rxStart | rxOther => exact classified_precede
  | txFrame | txEot | chWrite => exact transmit_precede
  | crcInit | crcRound | crcByte | crcBlock | frCmpl | srcRead | chRead | reset => rfl
  | frPad | frFrame =>
    simp only [execFrPad, execFrFrame, apply_ite (precedeOut old)]
    rfl
  | evtEmit e => exact congrArg _ (emit_precede e s)
  | haltDone | haltFailed =>
    simp only [execHaltDone, execHaltFailed, apply_ite (precedeOut old)]
    rfl
  | cancel | cancelHi => exact onCancel_precede
  | startGo | startPoll | startPollAck | ackAdv | ackRetry | ackRetryC | eotackDone | eotackRetry | eotackRetryC =>
    exact onRead_precede fun _ => finish_precede rfl
  | startCan | startIoerr | startExhaust | startExhaustAck | ackCan | ackExhaust | ackExhaustC | ackIoerr
  | eotackCan | eotackExhaust | eotackExhaustC | eotackIoerr =>
    exact onRead_precede fun _ => raiseFailed_precede rfl
  | retrySend =>
    exact onWrite_precede fun u => finish_precede (by rw [emit_precede]; rfl)
  | eotSend => exact onWrite_precede fun u => finish_precede (emit_precede _ u)
  | retryIoerr | eotIoerr => exact onWrite_precede fun _ => raiseFailed_precede rfl
  | blockSend | blockSendEmpty =>
    refine onChunk_precede fun c => ?_
    rw [transmitChunk_precede, apply_ite (precedeOut old)]
    rfl
  | blockEof =>
    refine onChunk_precede fun c => ?_
    rw [apply_ite (precedeOut old)]
    exact if_congr Iff.rfl (congrArg _ (finish_precede rfl)) rfl
  | blockIoerr => exact blockIoerr_precede

theorem blockKey_precede : blockKey (precede old s) = blockKey s := by
  simp only [blockKey, frameWriteNow_precede]
  rfl

theorem transitionKey_precede : transitionKey (precede old s) = transitionKey s := by
  simp only [transitionKey, blockKey_precede, afterCancel_precede, writeChannel_precede]
  rfl

theorem runCall_precede (c : Call) (s : State) : runCall c (precede old s) = precedeOut old (runCall c s) := by
  unfold runCall
  cases decode c with
  | error e => rfl
  | ok i =>
    dsimp only
    rw [exec_precede, apply_ite (precedeOut old)]
    rfl

/-- A transition under an excluded configuration is refused (R7, R34). -/
theorem step_illegalConfig {s : State} (hc : s.calls = []) (hl : legalConfig s = false) :
    step s = .refused .illegalConfig := by simp [step, fetch, hc, hl]

theorem step_precede : step (precede old s) = precedeOut old (step s) := by
  cases hc : s.calls with
  | cons c cs =>
    rw [step_call hc, step_call (s := precede old s) hc]
    exact runCall_precede c { s with calls := cs }
  | nil =>
    cases hl : legalConfig s with
    | true =>
      rw [step_transition hc hl, step_transition (s := precede old s) hc hl, transitionKey_precede]
      exact runCall_precede _ s
    | false => rw [step_illegalConfig hc hl, step_illegalConfig (s := precede old s) hc hl]; rfl

end Stream

/-! ### The result -/

theorem sessionResult_failed {s : State} {r : FailReason} (hs : s.fsm = .failed) (hr : s.reason = some r) :
    sessionResult s = some (.failure (errorKind r) s.seq) := by simp [sessionResult, hs, hr]

theorem sessionClass_failed {s : State} {r : FailReason} (hs : s.fsm = .failed) (hr : s.reason = some r) :
    sessionClass s = some (outcomeClass (some r)) := by simp [sessionClass, sessionResult_failed hs hr, hr]

/-! ### The records -/

/-- The code of a received byte's class (R108, R248). -/
theorem outcomeCode_classify (b : Byte) :
    outcomeCode (.cls (classify b)) =
      if b = 0x06 then 9 else if b = 0x15 then 10 else if b = 0x18 then 11 else if b = 0x43 then 12 else 13 := by
  simp only [classify, apply_ite EventOutcome.cls, apply_ite outcomeCode]
  rfl

/-! ### The obligations -/

/-- Settles O51: `s` is its records before the same state without any, whose step leaves the new records alone. -/
theorem eventStreamHasNoInfluence : Obligations.EventStreamHasNoInfluence := by
  intro s t h
  rw [← precede_events s, step_precede] at h
  obtain ⟨u, hu, rfl⟩ := precedeOut_eq_next.1 h
  refine ⟨u.events, rfl, fun old => ?_⟩
  have hold : step (precede old { s with events := [] }) = .next (precede old u) := by rw [step_precede, hu]; rfl
  simpa [precede] using hold

/-- Settles O17, by the values session creation writes. -/
theorem resetCreatesNewSession : Obligations.ResetCreatesNewSession := fun s =>
  ⟨newSession s, exec_reset s, by simp [NoRead, NoWrite]⟩

/-- Settles O18: `EVT.EMIT` is `emit`. -/
theorem emitAppendsRecord : Obligations.EmitAppendsRecord := exec_evtEmit

/-- Settles O57, by the two maps of R269 at each reason. -/
theorem failureReportsKindAndSeq : Obligations.FailureReportsKindAndSeq := by
  intro s r hs hr
  rw [sessionClass_failed hs hr]
  refine ⟨_, sessionResult_failed hs hr, ?_, ?_, ?_, ?_⟩
  · rintro (rfl | rfl | rfl) <;> exact ⟨rfl, rfl⟩
  all_goals
    rintro rfl
    exact ⟨rfl, rfl⟩

/-- Settles O58: the builders of the records give their fields; a class and a reason have their codes. -/
theorem eventRecordFields : Obligations.EventRecordFields := by
  refine ⟨fun q n => ⟨rfl, rfl, rfl, rfl, rfl, rfl, rfl⟩,
    fun q b => ⟨rfl, rfl, rfl, outcomeCode_classify b, rfl, rfl, rfl⟩,
    fun q f g o => ⟨rfl, rfl, rfl, rfl, rfl, rfl, rfl⟩, ⟨rfl, rfl⟩, fun r => ?_⟩
  cases r <;> rfl

end Sys2Proof.Machine
end

section
/-! SUPPORT. The priority of the conditions of one step (R273). A row that runs is the row the step runs
(`step_of_exec_next`), so each condition is reported by a step as the row it belongs to reports it; which row that is
depends on the state alone. -/

namespace Sys2Proof.Machine

/-- Of three rows, one for each reading state, one is for the state at hand. -/
theorem readingRow_of_state {a b c : Instr} {ka kb kc : BitVec 10} {s : State} (ha : encode a = .fsmKey ka)
    (hb : encode b = .fsmKey kb) (hc : encode c = .fsmKey kc)
    (hst : s.fsm = .awaitStart ∨ s.fsm = .awaitAck ∨ s.fsm = .awaitEotAck) :
    ∃ i k, encode i = .fsmKey k ∧
      ((i = a ∧ s.fsm = .awaitStart) ∨ (i = b ∧ s.fsm = .awaitAck) ∨ (i = c ∧ s.fsm = .awaitEotAck)) := by
  obtain hs | hs | hs := hst
  · exact ⟨a, ka, ha, .inl ⟨rfl, hs⟩⟩
  · exact ⟨b, kb, hb, .inr (.inl ⟨rfl, hs⟩)⟩
  · exact ⟨c, kc, hc, .inr (.inr ⟨rfl, hs⟩)⟩

section Priority
variable {s : State} (hcalls : s.calls = []) (hlegal : legalConfig s = true)
include hcalls hlegal

/-- The key selects the row that runs, so a step with no call waiting answers what that row answers. -/
theorem step_of_exec_next {i : Instr} {k : BitVec 10} {t : State} (hk : encode i = .fsmKey k)
    (h : exec i s = .next t) : step s = .next t := by
  have hdecode : decode (.fsmKey (transitionKey s)) = .ok i := selected_of_exec_next hk h
  rw [step_transition hcalls hlegal, runCall_of_decode hdecode (wellFormed_of_encode hk), h]

/-- A set request, in any live state, whatever the answers of the environment would be (R215). -/
theorem step_cancelRequest (hlive : isTerminal s.fsm = false) (hc : cancelNow s = true) :
    ∃ t, step s = .next t ∧ FailStep .cancelledLocally s t ∧ NoRead s t ∧ NoWrite s t := by
  obtain ⟨i, k, hk, hi⟩ : ∃ i k, encode i = .fsmKey k ∧
      ((i = .cancel ∧ (s.fsm = .awaitStart ∨ s.fsm = .sendBlock ∨ s.fsm = .awaitAck ∨ s.fsm = .retry)) ∨
        (i = .cancelHi ∧ (s.fsm = .sendEot ∨ s.fsm = .awaitEotAck))) := by
    cases hs : s.fsm with
    | awaitStart | sendBlock | awaitAck | retry => exact ⟨.cancel, _, rfl, .inl ⟨rfl, by decide⟩⟩
    | sendEot | awaitEotAck => exact ⟨.cancelHi, _, rfl, .inr ⟨rfl, by decide⟩⟩
    | done | failed => simp [hs, isTerminal] at hlive
  obtain ⟨t, hexec, hfail, hread, hwrite, -⟩ := (cancelRequestFailsSession s i hi).1 hc
  exact ⟨t, step_of_exec_next hcalls hlegal hk hexec, hfail, hread, hwrite⟩

/-- A failed read, in any reading state, before any class (R184, R199, R212). -/
theorem step_readError (hst : s.fsm = .awaitStart ∨ s.fsm = .awaitAck ∨ s.fsm = .awaitEotAck)
    (hc : cancelNow s = false) (hr : readNow s = .ioError) :
    ∃ t, step s = .next t ∧ FailStep .ioError s t := by
  obtain ⟨i, k, hk, hi⟩ := readingRow_of_state (a := .startIoerr) (b := .ackIoerr) (c := .eotackIoerr) rfl rfl rfl hst
  obtain ⟨t, hexec, hfail, -⟩ := (readErrorFailsSession s i hi).1 hc hr
  exact ⟨t, step_of_exec_next hcalls hlegal hk hexec, hfail⟩

/-- A CANCEL byte, in any reading state, on either side of the bound (R183, R196, R209). -/
theorem step_cancelByte (hst : s.fsm = .awaitStart ∨ s.fsm = .awaitAck ∨ s.fsm = .awaitEotAck)
    (hc : cancelNow s = false) (hr : readNow s = .byte 0x18) :
    ∃ t, step s = .next t ∧ t.reason = some .peerCancelled ∧
      ReadStep [.fsm, .reason] .failed (.reason .peerCancelled) s t := by
  obtain ⟨i, k, hk, hi⟩ := readingRow_of_state (a := .startCan) (b := .ackCan) (c := .eotackCan) rfl rfl rfl hst
  obtain ⟨t, hexec, hreason, hstep⟩ := (cancelByteFailsSession s i hi).1 hc hr
  exact ⟨t, step_of_exec_next hcalls hlegal hk hexec, hreason, hstep⟩

/-- A failed source read ends the step before the channel is written (R193). -/
theorem step_sourceError (hs : s.fsm = .sendBlock) (hc : cancelNow s = false) (hr : sourceNow s = .ioError) :
    ∃ t, step s = .next t ∧ FailStep .ioError s t ∧ NoWrite s t := by
  obtain ⟨t, hexec, hfail, -, hwrite⟩ := (sendBlockErrorFailsSession s hs hc).1 hr
  exact ⟨t, step_of_exec_next hcalls hlegal (i := .blockIoerr) rfl hexec, hfail, hwrite⟩

end Priority

/-! ### The obligation -/

/-- Settles O38: each condition selects its own row; the row of a CANCEL byte writes `state` and `reason` alone, so the
counters stand also at the bound. -/
theorem priorityWithinStep : Obligations.PriorityWithinStep := by
  intro s hlive hcalls hlegal
  refine ⟨fun hc => ?_, fun hc hst => ⟨fun hr => ?_, fun hr => ?_⟩, fun hc hs hr => ?_⟩
  · obtain ⟨t, hstep, ⟨-, hreason, -⟩, hread, hwrite⟩ := step_cancelRequest hcalls hlegal hlive hc
    exact ⟨t, hstep, hreason, hread, hwrite⟩
  · obtain ⟨t, hstep, -, hreason, -⟩ := step_readError hcalls hlegal hst hc hr
    exact ⟨t, hstep, hreason⟩
  · obtain ⟨t, hstep, hreason, -, -, -, -, -, -, hregs, -⟩ := step_cancelByte hcalls hlegal hst hc hr
    exact ⟨t, hstep, hreason, hregs .retryCount (by decide), hregs .pollCount (by decide)⟩
  · obtain ⟨t, hstep, ⟨-, hreason, -⟩, hwrite⟩ := step_sourceError hcalls hlegal hs hc hr
    exact ⟨t, hstep, hreason, hwrite⟩

end Sys2Proof.Machine
end
